-- ==== Sys2Proof/Word.lean ====
section
/-! DEFINITION. The words of the S14 core: the 32-bit word of the host window and of every register
(spec R51), the 8-bit byte, the 16-bit host byte address (R9, R50), and the binary32 pattern (R11). -/

namespace Sys2Proof

/-- The unit of the host window and of every register: 32 bits (R51). Phases and phase increments,
the elements of `U32`, are words too (R10, R22). -/
abbrev Word := BitVec 32

/-- One byte, the host's byte view of a word (R54). -/
abbrev Byte := BitVec 8

/-- A host byte address, `ADDR_BITS = 16` (R9, R50). -/
abbrev Addr := BitVec 16

/-- An element of `F`, held as its bit pattern `bitsF` (R11): the host reads it as a word, so the
model keeps it as one and `bitsF` and `Fbits` are the identity. -/
abbrev F32 := BitVec 32

end Sys2Proof
end

