-- ==== Sys2Proof/Syntax.lean ====
section
/-! DEFINITION. The five commands of the S14 core (spec R2, R76, opcode_table.json). -/

namespace Sys2Proof

/-- A command, one constructor per row of the opcode table (R76). Operands of formats `N` and `R` are
natural numbers (R75). The operand of a format `Q` command is not in the command word: it is `ARG0` (R74). -/
inductive Instr where
  /-- `NOTEON pitch, velocity` (R112). -/
  | noteon (pitch velocity : Nat)
  /-- `RENDER nframes` (R155). -/
  | render (nframes : Nat)
  /-- `SINEAT` (R93). -/
  | sineat
  /-- `SAWAT` (R95). -/
  | sawat
  /-- `PHINC` (R97). -/
  | phinc
  deriving DecidableEq, Repr

end Sys2Proof
end

