-- ==== Sys2Proof/WellFormed.lean ====
section
/-! DEFINITION. Which commands have a command word: each operand fits its field (spec R72, R73, R75). -/

namespace Sys2Proof

/-- Every operand fits the field its format gives it: 8 bits for `PITCH` and `VEL` (R72), 16 bits for
`NFRAMES` (R73). No other operand value is illegal (R78). -/
def Instr.wellFormed : Instr → Bool
  | .noteon pitch velocity => decide (pitch < 256) && decide (velocity < 256)
  | .render nframes => decide (nframes < 65536)
  | .sineat => true
  | .sawat => true
  | .phinc => true

/-- The command has a command word. -/
abbrev Instr.WellFormed (i : Instr) : Prop := i.wellFormed = true

end Sys2Proof
end

