-- ==== Sys2Proof/Decode.lean ====
section
/-! DEFINITION. Decoding and encoding of command words (spec R70 to R78). Every command is one 32-bit
word; decoding is total on words and rejects the rest by name (R77). -/

namespace Sys2Proof

/-- Why a word is no command (R77). The hardware records the same cause `ILLCMD` for both. -/
inductive DecodeError where
  /-- `OP = 0x00` or `OP >= 0x06`. -/
  | undefinedOp
  /-- A defined `OP` with a nonzero `ZERO` bit. -/
  | nonzeroZeroField
  deriving DecidableEq, Repr

/-- Bits 31:24 of every command word, `OP` (R71). -/
def opField (w : Word) : BitVec 8 := w.extractLsb' 24 8

/-- Bits 23:16, `ZERO` of formats `N` and `R` (R72, R73). -/
def zeroFieldNR (w : Word) : BitVec 8 := w.extractLsb' 16 8

/-- Bits 23:0, `ZERO` of format `Q` (R74). -/
def zeroFieldQ (w : Word) : BitVec 24 := w.extractLsb' 0 24

/-- Bits 15:8, `PITCH` of format `N` (R72). -/
def pitchField (w : Word) : BitVec 8 := w.extractLsb' 8 8

/-- Bits 7:0, `VEL` of format `N` (R72). -/
def velField (w : Word) : BitVec 8 := w.extractLsb' 0 8

/-- Bits 15:0, `NFRAMES` of format `R` (R73). -/
def nframesField (w : Word) : BitVec 16 := w.extractLsb' 0 16

/-- A command whose `ZERO` bits are all 0, or the rejection by name (R71, R77). -/
def requireZero (zero : Bool) (i : Instr) : Except DecodeError Instr :=
  if zero then .ok i else .error .nonzeroZeroField

/-- The decoder: the opcode map of R76 by the `OP` field, with the formats of R72 to R74. -/
def decode (w : Word) : Except DecodeError Instr :=
  match (opField w).toNat with
  | 1 => requireZero (zeroFieldNR w == 0) (.noteon (pitchField w).toNat (velField w).toNat)
  | 2 => requireZero (zeroFieldNR w == 0) (.render (nframesField w).toNat)
  | 3 => requireZero (zeroFieldQ w == 0) .sineat
  | 4 => requireZero (zeroFieldQ w == 0) .sawat
  | 5 => requireZero (zeroFieldQ w == 0) .phinc
  | _ => .error .undefinedOp

/-- The command word of a well-formed command, from the format tables of R72 to R74 and the `OP` values
of R76, fields written from bit 31 down. -/
def encode : Instr → Word
  | .noteon pitch velocity => 0x01#8 ++ 0#8 ++ BitVec.ofNat 8 pitch ++ BitVec.ofNat 8 velocity
  | .render nframes => 0x02#8 ++ 0#8 ++ BitVec.ofNat 16 nframes
  | .sineat => 0x03#8 ++ 0#24
  | .sawat => 0x04#8 ++ 0#24
  | .phinc => 0x05#8 ++ 0#24

/-- The command word whose low `nbits` bits are those of `w`, every bit above them 0. -/
def tableWord (nbits w : Nat) : Word := BitVec.ofNat 32 (w % 2 ^ nbits)

/-- What the decoder reads from a word numbered as the opcode table numbers it. -/
def decodeTableWord (nbits w : Nat) : Option Instr :=
  match decode (tableWord nbits w) with
  | .ok i => some i
  | .error _ => none

end Sys2Proof
end

