-- ==== Sys2Proof/Config.lean ====
section
/-! DEFINITION. What is fixed for the life of an engine (spec R8, R9, R41), and the free values: the
values the spec leaves open, as constants without a body. The numeric constants and tables of R32 and
R33 are in Machine/Tables.lean. -/

namespace Sys2Proof.Config

/-- `NUM_VOICES` (R8). -/
abbrev numVoices : Nat := 14

/-- The least `BLOCK_MAX` an engine may be built with (R9). -/
def blockMaxLeast : Nat := 128

/-- The greatest `BLOCK_MAX` an engine may be built with (R9). -/
def blockMaxGreatest : Nat := 4096

/-- `BLOCK_MAX` of the reference instance (R9: "default 128"), the one `State.reset` has. -/
def blockMaxReference : Nat := 128

/-- `PARTIAL_MODE` (R9, R43, R166): the one supported value. The reserved value 1 has no engine, so it
has no constructor. -/
inductive PartialMode where
  | saw
  deriving DecidableEq, Repr

/-- The partial mode of every engine of this spec (R9). -/
def partialMode : PartialMode := .saw

/-- FREE VALUE: what the entropy source answers to the `n`th `DrawNoise` (R36, R146, U1), before
`drawNoise` holds it to its range. See log entry 3. -/
opaque freeNoise : Nat → F32

/-- FREE VALUE: what the entropy source answers to the `n`th `DrawJitter` (R121, U2), before
`drawJitter` holds it to its range. See log entry 3. -/
opaque freeJitter : Nat → F32

/-- FREE VALUE: the result of the `n`th `phaseIncrementFor` of a NaN, "any element of `U32`" (R96, U3).
See log entry 5. -/
opaque freePhaseInc : Nat → Word

/-- FREE VALUE: sign and payload of the NaN that operation `op` (0 sum, 2 product, 3 quotient) makes of two
patterns. R100 gives none: no reachable state holds a NaN. See log entry 6. -/
opaque freeNaN : Nat → F32 → F32 → F32

/-- FREE VALUE: the 16-bit PCM pattern of a NaN, for which R165 states no result. See log entry 7. -/
opaque freePcm : F32 → BitVec 16

end Sys2Proof.Config
end

