-- ==== Sys2Proof/Machine/State.lean ====
section
/-! DEFINITION. The state of the machine as plain data (spec 10_state.md): the voice file, the
engine-global registers, the output buffer, the parameters an engine is built with, and the environment
that acts on it (the host's pending moves and the entropy source's answers). -/

namespace Sys2Proof.Machine

/-- `envelopeState`, one bit: 0 = Attack, 1 = Decay (R25). Off is `active = 0`, no value of this field. -/
inductive EnvState where
  | attack
  | decay
  deriving DecidableEq, Repr

/-- One voice, its 14 fields (R20 to R29). -/
structure Voice where
  /-- R21: the voice sounds. -/
  active : Bool
  /-- R22. -/
  phase : Word
  /-- R22. -/
  phaseInc : Word
  /-- R23. -/
  phase2 : Word
  /-- R23. -/
  phase2Inc : Word
  /-- R24. -/
  envelope : F32
  /-- R25. -/
  envelopeState : EnvState
  /-- R26. -/
  attackCoeff : F32
  /-- R26. -/
  decayCoeff : F32
  /-- R27. -/
  pluckEnvelope : F32
  /-- R27. -/
  pluckDecayCoeff : F32
  /-- R27. -/
  pluckFilterState : F32
  /-- R28: `AGE_BITS = 32`. -/
  age : Word
  /-- R29. -/
  detuneRatio : F32
  deriving DecidableEq, Repr

/-- Every field of a voice after reset (R40, R200). -/
def Voice.zero : Voice :=
  { active := false, phase := 0, phaseInc := 0, phase2 := 0, phase2Inc := 0, envelope := 0,
    envelopeState := .attack, attackCoeff := 0, decayCoeff := 0, pluckEnvelope := 0,
    pluckDecayCoeff := 0, pluckFilterState := 0, age := 0, detuneRatio := 0 }

/-- The index of a voice (R17, R20). -/
abbrev Slot := Fin Config.numVoices

/-- The voice file (R20). -/
abbrev VoiceFile := Vector Voice Config.numVoices

/-- The output buffer `OUT`, entry `k` at position `k` (R34): the one storage array of this hardware that
is no register file and no constant. Its canonical form is that it has exactly `BLOCK_MAX` entries. -/
abbrev Memory := List F32

/-- The canonical form of the output buffer of an engine with the given `BLOCK_MAX`. -/
abbrev Memory.wf (blockMax : Nat) (m : Memory) : Prop := m.length = blockMax

/-- What an engine is built with and no step changes (R9, R41). -/
structure Params where
  /-- `BLOCK_MAX` (R9). -/
  blockMax : Nat
  /-- The points at which this engine's `cents2ratio` differs from the reference instance of R122, as pairs of
  argument and value. Empty: the reference instance. See log entry 2. -/
  centsPoints : List (F32 × F32)
  deriving DecidableEq, Repr

/-- The reference instance of the parameters (R9, R122). -/
def Params.reference : Params := { blockMax := Config.blockMaxReference, centsPoints := [] }

/-- The model's own record of the entropy source (R36, R193): the answers that are already known to come,
oldest first, and how many draws were taken. Where no answer is known, a draw is a free value of Config.
See log entry 3. -/
structure Entropy where
  /-- The next answers to `DrawNoise`. -/
  noise : List F32
  /-- The next answers to `DrawJitter`. -/
  jitter : List F32
  /-- How many `DrawNoise` were taken. -/
  noiseDraws : Nat
  /-- How many `DrawJitter` were taken. -/
  jitterDraws : Nat
  /-- How many unspecified results of `PHINC` were taken (R97). -/
  unspecified : Nat
  deriving DecidableEq, Repr

/-- A move of the host (R15): an access of `bytes` bytes on the bus, or the reset input (R200). -/
inductive HostMove where
  | read (bytes : Nat) (addr : Addr)
  | write (bytes : Nat) (addr : Addr) (v : Word)
  | reset
  deriving DecidableEq, Repr

/-- What the bus answers to an access (R52, R53, R65). -/
inductive BusResponse where
  /-- A read returned this word. -/
  | data (v : Word)
  /-- A write completed. -/
  | written
  /-- The error response. -/
  | error
  deriving DecidableEq, Repr

/-- The fault causes, the complete list of R181. A fault of this hardware is a next state, not a stop. -/
inductive Cause where
  | illcmd
  | length
  | agewrap
  deriving DecidableEq, Repr

/-- The whole machine: what the spec gives the engine (`voices` to `outlen`), what it is built with
(`params`), and its environment (`entropy`, `moves`, `responses`), the model's own. -/
structure State where
  /-- The voice file `V` (R20). -/
  voices : VoiceFile
  /-- The output buffer `OUT` (R34). -/
  out : Memory
  /-- `G.AGECTR` (R30, R125). -/
  agectr : Word
  /-- `G.ARG0` (R30). -/
  arg0 : Word
  /-- `G.RESULT` (R30). -/
  result : Word
  /-- `G.STATUS` (R30, R42). -/
  status : Word
  /-- `G.FAULTCMD` (R30, R42). -/
  faultcmd : Word
  /-- `G.OUTLEN` (R30). -/
  outlen : Word
  /-- The parameters of the engine (R9, R41). -/
  params : Params
  /-- The entropy source (R15, R36). -/
  entropy : Entropy
  /-- The host's moves that are still to come, the next one first (R15, R58). -/
  moves : List HostMove
  /-- The bus's answers to the accesses performed so far, the latest first. -/
  responses : List BusResponse
  deriving DecidableEq, Repr

/-- The engine with the given parameters after reset (R40, R200), in an environment in which the host
has made no move and no draw is known. -/
def State.resetWith (p : Params) : State :=
  { voices := Vector.replicate Config.numVoices Voice.zero
    out := List.replicate p.blockMax 0
    agectr := 0, arg0 := 0, result := 0, status := 0, faultcmd := 0, outlen := 0
    params := p
    entropy := { noise := [], jitter := [], noiseDraws := 0, jitterDraws := 0, unspecified := 0 }
    moves := [], responses := [] }

/-- The reference engine right after reset (R40). -/
def State.reset : State := State.resetWith Params.reference

/-- The reasons a step stops the machine: none. Every fault of the spec is a visible state of the engine
(R183, R184), a bus error is an answer on the bus (R65), and every command terminates (R212), so nothing
raises a stop; that there is none is the spec's, and safe. -/
inductive Fault where
  deriving DecidableEq, Repr

/-- The reasons the model has no meaning for a step. -/
inductive Refusal where
  /-- Raised by `exec` for an instruction without a meaning yet. Safe: it stops. No arm raises it now. -/
  | notModelled (mnemonic : String)
  deriving DecidableEq, Repr

/-- The outcome of a step of this machine. -/
abbrev Outcome := Host.Outcome State Fault Refusal

end Sys2Proof.Machine
end

