-- ==== Sys2Proof/Machine/Float.lean ====
section
/-! DEFINITION. IEEE 754 binary32 as the spec uses it (R11, R12, R100): round to nearest even, one
rounding per operation, subnormals kept, no exception flags.

Every finite binary32 value is a whole multiple of `2^-149`, so the model computes exactly in natural
numbers and integers that count units of `2^-149`, and rounds once at the end. -/

namespace Sys2Proof.Machine

/-- The exponent field, bits 30:23 (R11). -/
def expField (x : F32) : Nat := x.toNat / 2 ^ 23 % 256

/-- The fraction field, bits 22:0 (R11). -/
def fracField (x : F32) : Nat := x.toNat % 2 ^ 23

/-- The sign, bit 31 (R11): true for negative values and for `-0.0`. -/
def signBit (x : F32) : Bool := x.msb

/-- A NaN (R11). -/
def isNaN (x : F32) : Bool := expField x == 255 && fracField x != 0

/-- An infinity (R11). -/
def isInf (x : F32) : Bool := expField x == 255 && fracField x == 0

/-- Neither a NaN nor an infinity. -/
def isFinite (x : F32) : Bool := expField x != 255

/-- `|x|` in units of `2^-149`: exact for finite `x` (R11), and above every finite value for an infinity. -/
def mag (x : F32) : Nat :=
  if expField x = 0 then fracField x else (2 ^ 23 + fracField x) * 2 ^ (expField x - 1)

/-- `x` in units of `2^-149`. -/
def sval (x : F32) : Int := if signBit x then -(mag x : Int) else mag x

/-- The pattern, without its sign, of `RN(num/den * 2^-149)` for `den > 0`: nearest, ties to the even
fraction, overflowing to infinity (R11). The pattern of a binary32 value with quantum `2^(k-149)` and
significand `m` is `k * 2^23 + m`, also where `m` is a subnormal or has just rounded up to `2^24`. -/
def roundMag (num den : Nat) : Nat :=
  let k := Nat.log2 (num / den) - 23
  let d := den * 2 ^ k
  let q := num / d
  let r := num % d
  let m := if 2 * r < d ∨ (2 * r = d ∧ q % 2 = 0) then q else q + 1
  min (k * 2 ^ 23 + m) 0x7F800000

/-- The pattern with the given sign and the given bits 30:0. -/
def ofMag (neg : Bool) (u : Nat) : F32 := BitVec.ofNat 32 ((if neg then 2 ^ 31 else 0) + u)

/-- `RN(±num/den * 2^-149)`; a zero result keeps the sign asked for. -/
def roundF (neg : Bool) (num den : Nat) : F32 := ofMag neg (roundMag num den)

/-- A NaN that operation `op` makes: which one is open (log entry 6). -/
def nanResult (op : Nat) (a b : F32) : F32 := Config.freeNaN op a b ||| 0x7FC00000#32

/-- `(+)` (R12). An exact zero sum is `-0.0` only when both operands are negative zeros. -/
def fadd (a b : F32) : F32 :=
  if isNaN a || isNaN b then nanResult 0 a b
  else if isInf a then (if isInf b && (signBit a != signBit b) then nanResult 0 a b else a)
  else if isInf b then b
  else
    let s := sval a + sval b
    if s = 0 then ofMag (signBit a && signBit b) 0 else roundF (decide (s < 0)) s.natAbs 1

/-- `-x`, the sign bit flipped. -/
def fneg (x : F32) : F32 := x ^^^ 0x80000000#32

/-- `|x|`, the sign bit cleared, exact (R12). -/
def fabs (x : F32) : F32 := x &&& 0x7FFFFFFF#32

/-- `(-)` (R12): the sum with the negated operand, which has the same exact value and the same zero signs. -/
def fsub (a b : F32) : F32 := fadd a (fneg b)

/-- `(*)` (R12). -/
def fmul (a b : F32) : F32 :=
  let neg := signBit a != signBit b
  if isNaN a || isNaN b then nanResult 2 a b
  else if isInf a || isInf b then
    (if mag a = 0 ∨ mag b = 0 then nanResult 2 a b else ofMag neg 0x7F800000)
  else roundF neg (mag a * mag b) (2 ^ 149)

/-- `(/)` (R12). -/
def fdiv (a b : F32) : F32 :=
  let neg := signBit a != signBit b
  if isNaN a || isNaN b then nanResult 3 a b
  else if isInf a then (if isInf b then nanResult 3 a b else ofMag neg 0x7F800000)
  else if isInf b then ofMag neg 0
  else if mag b = 0 then (if mag a = 0 then nanResult 3 a b else ofMag neg 0x7F800000)
  else roundF neg (mag a * 2 ^ 149) (mag b)

/-- `a < b`, false on a NaN (R12). -/
def flt (a b : F32) : Bool := !isNaN a && !isNaN b && decide (sval a < sval b)

/-- `a <= b`, false on a NaN (R12). -/
def fle (a b : F32) : Bool := !isNaN a && !isNaN b && decide (sval a ≤ sval b)

/-- `a = b`, false on a NaN, `+0 = -0` (R12). -/
def feq (a b : F32) : Bool := !isNaN a && !isNaN b && decide (sval a = sval b)

/-- `a > b`, false on a NaN (R12). -/
def fgt (a b : F32) : Bool := flt b a

/-- `RN(s) * 2^-e` for an integer `s`, `e ≤ 149`: the power of two only moves the exponent (R94, R100). -/
def ofIntScaled (s : Int) (e : Nat) : F32 := roundF (decide (s < 0)) (s.natAbs * 2 ^ (149 - e)) 1

/-- `x` with its fractional part discarded, rounding toward zero (R100, R165). -/
def truncToInt (x : F32) : Int :=
  if signBit x then -((mag x / 2 ^ 149 : Nat) : Int) else ((mag x / 2 ^ 149 : Nat) : Int)

end Sys2Proof.Machine
end

