-- ==== Sys2Proof/Machine/Tables.lean ====
section
/-! DEFINITION. The constants and constant tables of the engine (spec R8, R32, R33; data R175 to R178):
configuration, never written (R41). A row of a table is the spec's own row of eight words, read as one
number with the first word in its highest bits. -/

namespace Sys2Proof.Machine

/-- `C_ATTACK` (R33): 0.02. -/
def cAttack : F32 := 0x3CA3D70A#32

/-- `C_ENV_INIT` (R33): 0.0001. -/
def cEnvInit : F32 := 0x38D1B717#32

/-- `C_THR_LO` (R33): 1e-4. -/
def cThrLo : F32 := 0x38D1B717#32

/-- `C_THR_HI` (R33): 0.99. -/
def cThrHi : F32 := 0x3F7D70A4#32

/-- `C_SAW_W` (R33): 0.15. -/
def cSawW : F32 := 0x3E19999A#32

/-- `C_PLUCK_W` (R33): 0.3. -/
def cPluckW : F32 := 0x3E99999A#32

/-- `C_MASTER` (R33): 0.12. -/
def cMaster : F32 := 0x3DF5C28F#32

/-- `C_DECAY` (R33): exp(-1/(0.8*44100)). -/
def cDecay : F32 := 0x3F7FFE24#32

/-- `C_PDECAY` (R33): exp(-1/(0.0014*44100)). -/
def cPdecay : F32 := 0x3F7BE311#32

/-- `C_ALPHA` (R33): 1 - exp(-2*pi*1200/44100). -/
def cAlpha : F32 := 0x3E20ECFB#32

/-- `C_INH_BASE` (R33): 1.5. -/
def cInhBase : F32 := 0x3FC00000#32

/-- `C_TWO` (R33): 2.0. -/
def cTwo : F32 := 0x40000000#32

/-- `C_ONE` (R33): 1.0. -/
def cOne : F32 := 0x3F800000#32

/-- `C_JIT` (R33): 0.3. -/
def cJit : F32 := 0x3E99999A#32

/-- `C_PCM` (R33): 12000. -/
def cPcm : F32 := 0x463B8000#32

/-- `+0.0`. -/
def fzero : F32 := 0#32

/-- `SRATE`: `SAMPLE_RATE = 44100` as an unsigned integer (R8, R30). -/
def sampleRate : Nat := 44100

/-- `SINE` (R175), indices 0 to 255, eight a row. -/
def sineRows0 : List Nat := [
  0x00000000_3B490FC6_3BC90F88_3C16CB58_3C490E90_3C7B514B_3C96C9B6_3CAFEA69,
  0x3CC90AB0_3CE22A7A_3CFB49BA_3D0A342F_3D16C32C_3D2351CB_3D2FE007_3D3C6DD5,
  0x3D48FB30_3D55880E_3D621469_3D6EA038_3D7B2B74_3D83DB0A_3D8A200A_3D9064B4,
  0x3D96A905_3D9CECF9_3DA3308C_3DA973BA_3DAFB680_3DB5F8DA_3DBC3AC3_3DC27C39,
  0x3DC8BD36_3DCEFDB7_3DD53DB9_3DDB7D37_3DE1BC2E_3DE7FA9A_3DEE3876_3DF475C0,
  0x3DFAB273_3E007745_3E039502_3E06B26E_3E09CF86_3E0CEC4A_3E1008B7_3E1324CA,
  0x3E164083_3E195BE0_3E1C76DE_3E1F917B_3E22ABB6_3E25C58C_3E28DEFC_3E2BF804,
  0x3E2F10A2_3E3228D4_3E354098_3E3857EC_3E3B6ECF_3E3E853E_3E419B37_3E44B0B9,
  0x3E47C5C2_3E4ADA4F_3E4DEE60_3E5101F1_3E541501_3E57278F_3E5A3997_3E5D4B1A,
  0x3E605C13_3E636C83_3E667C66_3E698BBA_3E6C9A7F_3E6FA8B2_3E72B651_3E75C35A,
  0x3E78CFCC_3E7BDBA4_3E7EE6E1_3E80F8C0_3E827DC0_3E840270_3E8586CE_3E870ADA,
  0x3E888E93_3E8A11F7_3E8B9507_3E8D17C0_3E8E9A22_3E901C2C_3E919DDD_3E931F35,
  0x3E94A031_3E9620D2_3E97A117_3E9920FE_3E9AA086_3E9C1FAF_3E9D9E78_3E9F1CDF,
  0x3EA09AE5_3EA21887_3EA395C5_3EA5129F_3EA68F12_3EA80B1F_3EA986C4_3EAB0201,
  0x3EAC7CD4_3EADF73C_3EAF713A_3EB0EACB_3EB263EF_3EB3DCA5_3EB554EC_3EB6CCC3,
  0x3EB8442A_3EB9BB1E_3EBB31A0_3EBCA7AF_3EBE1D4A_3EBF926F_3EC1071E_3EC27B55,
  0x3EC3EF15_3EC5625C_3EC6D529_3EC8477C_3EC9B953_3ECB2AAE_3ECC9B8B_3ECE0BEA,
  0x3ECF7BCA_3ED0EB2A_3ED25A09_3ED3C867_3ED53641_3ED6A399_3ED8106B_3ED97CB9,
  0x3EDAE880_3EDC53C1_3EDDBE79_3EDF28A9_3EE0924F_3EE1FB6A_3EE363FA_3EE4CBFE,
  0x3EE63375_3EE79A5D_3EE900B7_3EEA6681_3EEBCBBB_3EED3063_3EEE9479_3EEFF7FB,
  0x3EF15AEA_3EF2BD43_3EF41F07_3EF58035_3EF6E0CB_3EF840C8_3EF9A02D_3EFAFEF7,
  0x3EFC5D27_3EFDBABB_3EFF17B2_3F003A06_3F00E7E4_3F019573_3F0242B1_3F02EF9F,
  0x3F039C3D_3F044889_3F04F484_3F05A02C_3F064B82_3F06F686_3F07A136_3F084B92,
  0x3F08F59B_3F099F4E_3F0A48AD_3F0AF1B7_3F0B9A6B_3F0C42C9_3F0CEAD0_3F0D9281,
  0x3F0E39DA_3F0EE0DB_3F0F8784_3F102DD5_3F10D3CD_3F11796B_3F121EB0_3F12C39A,
  0x3F13682A_3F140C5F_3F14B039_3F1553B7_3F15F6D9_3F16999F_3F173C07_3F17DE12,
  0x3F187FC0_3F19210F_3F19C200_3F1A6293_3F1B02C6_3F1BA299_3F1C420C_3F1CE11F,
  0x3F1D7FD1_3F1E1E22_3F1EBC12_3F1F599F_3F1FF6CB_3F209393_3F212FF9_3F21CBFB,
  0x3F226799_3F2302D3_3F239DA9_3F24381A_3F24D225_3F256BCB_3F26050A_3F269DE3,
  0x3F273656_3F27CE61_3F286605_3F28FD41_3F299415_3F2A2A80_3F2AC082_3F2B561B,
  0x3F2BEB4A_3F2C800F_3F2D1469_3F2DA859_3F2E3BDE_3F2ECEF7_3F2F61A5_3F2FF3E6,
  0x3F3085BB_3F311722_3F31A81D_3F3238AA_3F32C8C9_3F33587A_3F33E7BC_3F34768F]

/-- `SINE` (R175), indices 256 to 511, eight a row. -/
def sineRows1 : List Nat := [
  0x3F3504F3_3F3592E7_3F36206C_3F36AD7F_3F373A23_3F37C655_3F385216_3F38DD65,
  0x3F396842_3F39F2AC_3F3A7CA4_3F3B0629_3F3B8F3B_3F3C17D9_3F3CA003_3F3D27B8,
  0x3F3DAEF9_3F3E35C5_3F3EBC1B_3F3F41FC_3F3FC767_3F404C5C_3F40D0DA_3F4154E1,
  0x3F41D870_3F425B89_3F42DE29_3F436051_3F43E200_3F446337_3F44E3F5_3F456439,
  0x3F45E403_3F466354_3F46E22A_3F476085_3F47DE65_3F485BCA_3F48D8B3_3F495521,
  0x3F49D112_3F4A4C87_3F4AC77F_3F4B41FA_3F4BBBF8_3F4C3578_3F4CAE79_3F4D26FD,
  0x3F4D9F02_3F4E1689_3F4E8D90_3F4F0417_3F4F7A1F_3F4FEFA8_3F5064AF_3F50D937,
  0x3F514D3D_3F51C0C2_3F5233C6_3F52A649_3F531849_3F5389C7_3F53FAC3_3F546B3B,
  0x3F54DB31_3F554AA4_3F55B993_3F5627FE_3F5695E5_3F570348_3F577026_3F57DC7F,
  0x3F584853_3F58B3A1_3F591E6A_3F5988AD_3F59F26A_3F5A5BA0_3F5AC450_3F5B2C79,
  0x3F5B941A_3F5BFB34_3F5C61C7_3F5CC7D1_3F5D2D53_3F5D924D_3F5DF6BE_3F5E5AA6,
  0x3F5EBE05_3F5F20DB_3F5F8327_3F5FE4E9_3F604621_3F60A6CF_3F6106F2_3F61668A,
  0x3F61C598_3F62241A_3F628210_3F62DF7B_3F633C5A_3F6398AC_3F63F473_3F644FAC,
  0x3F64AA59_3F650479_3F655E0B_3F65B710_3F660F88_3F666771_3F66BECC_3F671599,
  0x3F676BD8_3F67C187_3F6816A8_3F686B39_3F68BF3C_3F6912AE_3F696591_3F69B7E4,
  0x3F6A09A7_3F6A5AD9_3F6AAB7B_3F6AFB8C_3F6B4B0C_3F6B99FB_3F6BE858_3F6C3624,
  0x3F6C835E_3F6CD007_3F6D1C1D_3F6D67A1_3F6DB293_3F6DFCF2_3F6E46BE_3F6E8FF8,
  0x3F6ED89E_3F6F20B0_3F6F6830_3F6FAF1B_3F6FF573_3F703B37_3F708066_3F70C501,
  0x3F710908_3F714C7A_3F718F57_3F71D19F_3F721352_3F725470_3F7294F8_3F72D4EB,
  0x3F731447_3F73530E_3F73913F_3F73CED9_3F740BDD_3F74484B_3F748422_3F74BF62,
  0x3F74FA0B_3F75341D_3F756D97_3F75A67B_3F75DEC6_3F76167A_3F764D97_3F76841B,
  0x3F76BA07_3F76EF5B_3F772417_3F77583A_3F778BC5_3F77BEB7_3F77F110_3F7822D1,
  0x3F7853F8_3F788486_3F78B47B_3F78E3D6_3F791298_3F7940C0_3F796E4E_3F799B43,
  0x3F79C79D_3F79F35E_3F7A1E84_3F7A4910_3F7A7302_3F7A9C59_3F7AC516_3F7AED37,
  0x3F7B14BE_3F7B3BAB_3F7B61FC_3F7B87B2_3F7BACCD_3F7BD14D_3F7BF531_3F7C187A,
  0x3F7C3B28_3F7C5D3A_3F7C7EB0_3F7C9F8A_3F7CBFC9_3F7CDF6C_3F7CFE73_3F7D1CDD,
  0x3F7D3AAC_3F7D57DE_3F7D7474_3F7D906E_3F7DABCC_3F7DC68C_3F7DE0B1_3F7DFA38,
  0x3F7E1324_3F7E2B72_3F7E4323_3F7E5A38_3F7E70B0_3F7E868B_3F7E9BC9_3F7EB069,
  0x3F7EC46D_3F7ED7D4_3F7EEA9D_3F7EFCC9_3F7F0E58_3F7F1F49_3F7F2F9D_3F7F3F54,
  0x3F7F4E6D_3F7F5CE9_3F7F6AC7_3F7F7808_3F7F84AB_3F7F90B1_3F7F9C18_3F7FA6E3,
  0x3F7FB10F_3F7FBA9E_3F7FC38F_3F7FCBE2_3F7FD397_3F7FDAAF_3F7FE129_3F7FE705,
  0x3F7FEC43_3F7FF0E3_3F7FF4E6_3F7FF84A_3F7FFB11_3F7FFD39_3F7FFEC4_3F7FFFB1]

/-- `SINE` (R175), indices 512 to 767, eight a row. -/
def sineRows2 : List Nat := [
  0x3F800000_3F7FFFB1_3F7FFEC4_3F7FFD39_3F7FFB11_3F7FF84A_3F7FF4E6_3F7FF0E3,
  0x3F7FEC43_3F7FE705_3F7FE129_3F7FDAAF_3F7FD397_3F7FCBE2_3F7FC38F_3F7FBA9E,
  0x3F7FB10F_3F7FA6E3_3F7F9C18_3F7F90B1_3F7F84AB_3F7F7808_3F7F6AC7_3F7F5CE9,
  0x3F7F4E6D_3F7F3F54_3F7F2F9D_3F7F1F49_3F7F0E58_3F7EFCC9_3F7EEA9D_3F7ED7D4,
  0x3F7EC46D_3F7EB069_3F7E9BC9_3F7E868B_3F7E70B0_3F7E5A38_3F7E4323_3F7E2B72,
  0x3F7E1324_3F7DFA38_3F7DE0B1_3F7DC68C_3F7DABCC_3F7D906E_3F7D7474_3F7D57DE,
  0x3F7D3AAC_3F7D1CDD_3F7CFE73_3F7CDF6C_3F7CBFC9_3F7C9F8A_3F7C7EB0_3F7C5D3A,
  0x3F7C3B28_3F7C187A_3F7BF531_3F7BD14D_3F7BACCD_3F7B87B2_3F7B61FC_3F7B3BAB,
  0x3F7B14BE_3F7AED37_3F7AC516_3F7A9C59_3F7A7302_3F7A4910_3F7A1E84_3F79F35E,
  0x3F79C79D_3F799B43_3F796E4E_3F7940C0_3F791298_3F78E3D6_3F78B47B_3F788486,
  0x3F7853F8_3F7822D1_3F77F110_3F77BEB7_3F778BC5_3F77583A_3F772417_3F76EF5B,
  0x3F76BA07_3F76841B_3F764D97_3F76167A_3F75DEC6_3F75A67B_3F756D97_3F75341D,
  0x3F74FA0B_3F74BF62_3F748422_3F74484B_3F740BDD_3F73CED9_3F73913F_3F73530E,
  0x3F731447_3F72D4EB_3F7294F8_3F725470_3F721352_3F71D19F_3F718F57_3F714C7A,
  0x3F710908_3F70C501_3F708066_3F703B37_3F6FF573_3F6FAF1B_3F6F6830_3F6F20B0,
  0x3F6ED89E_3F6E8FF8_3F6E46BE_3F6DFCF2_3F6DB293_3F6D67A1_3F6D1C1D_3F6CD007,
  0x3F6C835E_3F6C3624_3F6BE858_3F6B99FB_3F6B4B0C_3F6AFB8C_3F6AAB7B_3F6A5AD9,
  0x3F6A09A7_3F69B7E4_3F696591_3F6912AE_3F68BF3C_3F686B39_3F6816A8_3F67C187,
  0x3F676BD8_3F671599_3F66BECC_3F666771_3F660F88_3F65B710_3F655E0B_3F650479,
  0x3F64AA59_3F644FAC_3F63F473_3F6398AC_3F633C5A_3F62DF7B_3F628210_3F62241A,
  0x3F61C598_3F61668A_3F6106F2_3F60A6CF_3F604621_3F5FE4E9_3F5F8327_3F5F20DB,
  0x3F5EBE05_3F5E5AA6_3F5DF6BE_3F5D924D_3F5D2D53_3F5CC7D1_3F5C61C7_3F5BFB34,
  0x3F5B941A_3F5B2C79_3F5AC450_3F5A5BA0_3F59F26A_3F5988AD_3F591E6A_3F58B3A1,
  0x3F584853_3F57DC7F_3F577026_3F570348_3F5695E5_3F5627FE_3F55B993_3F554AA4,
  0x3F54DB31_3F546B3B_3F53FAC3_3F5389C7_3F531849_3F52A649_3F5233C6_3F51C0C2,
  0x3F514D3D_3F50D937_3F5064AF_3F4FEFA8_3F4F7A1F_3F4F0417_3F4E8D90_3F4E1689,
  0x3F4D9F02_3F4D26FD_3F4CAE79_3F4C3578_3F4BBBF8_3F4B41FA_3F4AC77F_3F4A4C87,
  0x3F49D112_3F495521_3F48D8B3_3F485BCA_3F47DE65_3F476085_3F46E22A_3F466354,
  0x3F45E403_3F456439_3F44E3F5_3F446337_3F43E200_3F436051_3F42DE29_3F425B89,
  0x3F41D870_3F4154E1_3F40D0DA_3F404C5C_3F3FC767_3F3F41FC_3F3EBC1B_3F3E35C5,
  0x3F3DAEF9_3F3D27B8_3F3CA003_3F3C17D9_3F3B8F3B_3F3B0629_3F3A7CA4_3F39F2AC,
  0x3F396842_3F38DD65_3F385216_3F37C655_3F373A23_3F36AD7F_3F36206C_3F3592E7]

/-- `SINE` (R175), indices 768 to 1023, eight a row. -/
def sineRows3 : List Nat := [
  0x3F3504F3_3F34768F_3F33E7BC_3F33587A_3F32C8C9_3F3238AA_3F31A81D_3F311722,
  0x3F3085BB_3F2FF3E6_3F2F61A5_3F2ECEF7_3F2E3BDE_3F2DA859_3F2D1469_3F2C800F,
  0x3F2BEB4A_3F2B561B_3F2AC082_3F2A2A80_3F299415_3F28FD41_3F286605_3F27CE61,
  0x3F273656_3F269DE3_3F26050A_3F256BCB_3F24D225_3F24381A_3F239DA9_3F2302D3,
  0x3F226799_3F21CBFB_3F212FF9_3F209393_3F1FF6CB_3F1F599F_3F1EBC12_3F1E1E22,
  0x3F1D7FD1_3F1CE11F_3F1C420C_3F1BA299_3F1B02C6_3F1A6293_3F19C200_3F19210F,
  0x3F187FC0_3F17DE12_3F173C07_3F16999F_3F15F6D9_3F1553B7_3F14B039_3F140C5F,
  0x3F13682A_3F12C39A_3F121EB0_3F11796B_3F10D3CD_3F102DD5_3F0F8784_3F0EE0DB,
  0x3F0E39DA_3F0D9281_3F0CEAD0_3F0C42C9_3F0B9A6B_3F0AF1B7_3F0A48AD_3F099F4E,
  0x3F08F59B_3F084B92_3F07A136_3F06F686_3F064B82_3F05A02C_3F04F484_3F044889,
  0x3F039C3D_3F02EF9F_3F0242B1_3F019573_3F00E7E4_3F003A06_3EFF17B2_3EFDBABB,
  0x3EFC5D27_3EFAFEF7_3EF9A02D_3EF840C8_3EF6E0CB_3EF58035_3EF41F07_3EF2BD43,
  0x3EF15AEA_3EEFF7FB_3EEE9479_3EED3063_3EEBCBBB_3EEA6681_3EE900B7_3EE79A5D,
  0x3EE63375_3EE4CBFE_3EE363FA_3EE1FB6A_3EE0924F_3EDF28A9_3EDDBE79_3EDC53C1,
  0x3EDAE880_3ED97CB9_3ED8106B_3ED6A399_3ED53641_3ED3C867_3ED25A09_3ED0EB2A,
  0x3ECF7BCA_3ECE0BEA_3ECC9B8B_3ECB2AAE_3EC9B953_3EC8477C_3EC6D529_3EC5625C,
  0x3EC3EF15_3EC27B55_3EC1071E_3EBF926F_3EBE1D4A_3EBCA7AF_3EBB31A0_3EB9BB1E,
  0x3EB8442A_3EB6CCC3_3EB554EC_3EB3DCA5_3EB263EF_3EB0EACB_3EAF713A_3EADF73C,
  0x3EAC7CD4_3EAB0201_3EA986C4_3EA80B1F_3EA68F12_3EA5129F_3EA395C5_3EA21887,
  0x3EA09AE5_3E9F1CDF_3E9D9E78_3E9C1FAF_3E9AA086_3E9920FE_3E97A117_3E9620D2,
  0x3E94A031_3E931F35_3E919DDD_3E901C2C_3E8E9A22_3E8D17C0_3E8B9507_3E8A11F7,
  0x3E888E93_3E870ADA_3E8586CE_3E840270_3E827DC0_3E80F8C0_3E7EE6E1_3E7BDBA4,
  0x3E78CFCC_3E75C35A_3E72B651_3E6FA8B2_3E6C9A7F_3E698BBA_3E667C66_3E636C83,
  0x3E605C13_3E5D4B1A_3E5A3997_3E57278F_3E541501_3E5101F1_3E4DEE60_3E4ADA4F,
  0x3E47C5C2_3E44B0B9_3E419B37_3E3E853E_3E3B6ECF_3E3857EC_3E354098_3E3228D4,
  0x3E2F10A2_3E2BF804_3E28DEFC_3E25C58C_3E22ABB6_3E1F917B_3E1C76DE_3E195BE0,
  0x3E164083_3E1324CA_3E1008B7_3E0CEC4A_3E09CF86_3E06B26E_3E039502_3E007745,
  0x3DFAB273_3DF475C0_3DEE3876_3DE7FA9A_3DE1BC2E_3DDB7D37_3DD53DB9_3DCEFDB7,
  0x3DC8BD36_3DC27C39_3DBC3AC3_3DB5F8DA_3DAFB680_3DA973BA_3DA3308C_3D9CECF9,
  0x3D96A905_3D9064B4_3D8A200A_3D83DB0A_3D7B2B74_3D6EA038_3D621469_3D55880E,
  0x3D48FB30_3D3C6DD5_3D2FE007_3D2351CB_3D16C32C_3D0A342F_3CFB49BA_3CE22A7A,
  0x3CC90AB0_3CAFEA69_3C96C9B6_3C7B514B_3C490E90_3C16CB58_3BC90F88_3B490FC6]

/-- `SINE` (R175), indices 1024 to 1279, eight a row. -/
def sineRows4 : List Nat := [
  0x00000000_BB490FC6_BBC90F88_BC16CB58_BC490E90_BC7B514B_BC96C9B6_BCAFEA69,
  0xBCC90AB0_BCE22A7A_BCFB49BA_BD0A342F_BD16C32C_BD2351CB_BD2FE007_BD3C6DD5,
  0xBD48FB30_BD55880E_BD621469_BD6EA038_BD7B2B74_BD83DB0A_BD8A200A_BD9064B4,
  0xBD96A905_BD9CECF9_BDA3308C_BDA973BA_BDAFB680_BDB5F8DA_BDBC3AC3_BDC27C39,
  0xBDC8BD36_BDCEFDB7_BDD53DB9_BDDB7D37_BDE1BC2E_BDE7FA9A_BDEE3876_BDF475C0,
  0xBDFAB273_BE007745_BE039502_BE06B26E_BE09CF86_BE0CEC4A_BE1008B7_BE1324CA,
  0xBE164083_BE195BE0_BE1C76DE_BE1F917B_BE22ABB6_BE25C58C_BE28DEFC_BE2BF804,
  0xBE2F10A2_BE3228D4_BE354098_BE3857EC_BE3B6ECF_BE3E853E_BE419B37_BE44B0B9,
  0xBE47C5C2_BE4ADA4F_BE4DEE60_BE5101F1_BE541501_BE57278F_BE5A3997_BE5D4B1A,
  0xBE605C13_BE636C83_BE667C66_BE698BBA_BE6C9A7F_BE6FA8B2_BE72B651_BE75C35A,
  0xBE78CFCC_BE7BDBA4_BE7EE6E1_BE80F8C0_BE827DC0_BE840270_BE8586CE_BE870ADA,
  0xBE888E93_BE8A11F7_BE8B9507_BE8D17C0_BE8E9A22_BE901C2C_BE919DDD_BE931F35,
  0xBE94A031_BE9620D2_BE97A117_BE9920FE_BE9AA086_BE9C1FAF_BE9D9E78_BE9F1CDF,
  0xBEA09AE5_BEA21887_BEA395C5_BEA5129F_BEA68F12_BEA80B1F_BEA986C4_BEAB0201,
  0xBEAC7CD4_BEADF73C_BEAF713A_BEB0EACB_BEB263EF_BEB3DCA5_BEB554EC_BEB6CCC3,
  0xBEB8442A_BEB9BB1E_BEBB31A0_BEBCA7AF_BEBE1D4A_BEBF926F_BEC1071E_BEC27B55,
  0xBEC3EF15_BEC5625C_BEC6D529_BEC8477C_BEC9B953_BECB2AAE_BECC9B8B_BECE0BEA,
  0xBECF7BCA_BED0EB2A_BED25A09_BED3C867_BED53641_BED6A399_BED8106B_BED97CB9,
  0xBEDAE880_BEDC53C1_BEDDBE79_BEDF28A9_BEE0924F_BEE1FB6A_BEE363FA_BEE4CBFE,
  0xBEE63375_BEE79A5D_BEE900B7_BEEA6681_BEEBCBBB_BEED3063_BEEE9479_BEEFF7FB,
  0xBEF15AEA_BEF2BD43_BEF41F07_BEF58035_BEF6E0CB_BEF840C8_BEF9A02D_BEFAFEF7,
  0xBEFC5D27_BEFDBABB_BEFF17B2_BF003A06_BF00E7E4_BF019573_BF0242B1_BF02EF9F,
  0xBF039C3D_BF044889_BF04F484_BF05A02C_BF064B82_BF06F686_BF07A136_BF084B92,
  0xBF08F59B_BF099F4E_BF0A48AD_BF0AF1B7_BF0B9A6B_BF0C42C9_BF0CEAD0_BF0D9281,
  0xBF0E39DA_BF0EE0DB_BF0F8784_BF102DD5_BF10D3CD_BF11796B_BF121EB0_BF12C39A,
  0xBF13682A_BF140C5F_BF14B039_BF1553B7_BF15F6D9_BF16999F_BF173C07_BF17DE12,
  0xBF187FC0_BF19210F_BF19C200_BF1A6293_BF1B02C6_BF1BA299_BF1C420C_BF1CE11F,
  0xBF1D7FD1_BF1E1E22_BF1EBC12_BF1F599F_BF1FF6CB_BF209393_BF212FF9_BF21CBFB,
  0xBF226799_BF2302D3_BF239DA9_BF24381A_BF24D225_BF256BCB_BF26050A_BF269DE3,
  0xBF273656_BF27CE61_BF286605_BF28FD41_BF299415_BF2A2A80_BF2AC082_BF2B561B,
  0xBF2BEB4A_BF2C800F_BF2D1469_BF2DA859_BF2E3BDE_BF2ECEF7_BF2F61A5_BF2FF3E6,
  0xBF3085BB_BF311722_BF31A81D_BF3238AA_BF32C8C9_BF33587A_BF33E7BC_BF34768F]

/-- `SINE` (R175), indices 1280 to 1535, eight a row. -/
def sineRows5 : List Nat := [
  0xBF3504F3_BF3592E7_BF36206C_BF36AD7F_BF373A23_BF37C655_BF385216_BF38DD65,
  0xBF396842_BF39F2AC_BF3A7CA4_BF3B0629_BF3B8F3B_BF3C17D9_BF3CA003_BF3D27B8,
  0xBF3DAEF9_BF3E35C5_BF3EBC1B_BF3F41FC_BF3FC767_BF404C5C_BF40D0DA_BF4154E1,
  0xBF41D870_BF425B89_BF42DE29_BF436051_BF43E200_BF446337_BF44E3F5_BF456439,
  0xBF45E403_BF466354_BF46E22A_BF476085_BF47DE65_BF485BCA_BF48D8B3_BF495521,
  0xBF49D112_BF4A4C87_BF4AC77F_BF4B41FA_BF4BBBF8_BF4C3578_BF4CAE79_BF4D26FD,
  0xBF4D9F02_BF4E1689_BF4E8D90_BF4F0417_BF4F7A1F_BF4FEFA8_BF5064AF_BF50D937,
  0xBF514D3D_BF51C0C2_BF5233C6_BF52A649_BF531849_BF5389C7_BF53FAC3_BF546B3B,
  0xBF54DB31_BF554AA4_BF55B993_BF5627FE_BF5695E5_BF570348_BF577026_BF57DC7F,
  0xBF584853_BF58B3A1_BF591E6A_BF5988AD_BF59F26A_BF5A5BA0_BF5AC450_BF5B2C79,
  0xBF5B941A_BF5BFB34_BF5C61C7_BF5CC7D1_BF5D2D53_BF5D924D_BF5DF6BE_BF5E5AA6,
  0xBF5EBE05_BF5F20DB_BF5F8327_BF5FE4E9_BF604621_BF60A6CF_BF6106F2_BF61668A,
  0xBF61C598_BF62241A_BF628210_BF62DF7B_BF633C5A_BF6398AC_BF63F473_BF644FAC,
  0xBF64AA59_BF650479_BF655E0B_BF65B710_BF660F88_BF666771_BF66BECC_BF671599,
  0xBF676BD8_BF67C187_BF6816A8_BF686B39_BF68BF3C_BF6912AE_BF696591_BF69B7E4,
  0xBF6A09A7_BF6A5AD9_BF6AAB7B_BF6AFB8C_BF6B4B0C_BF6B99FB_BF6BE858_BF6C3624,
  0xBF6C835E_BF6CD007_BF6D1C1D_BF6D67A1_BF6DB293_BF6DFCF2_BF6E46BE_BF6E8FF8,
  0xBF6ED89E_BF6F20B0_BF6F6830_BF6FAF1B_BF6FF573_BF703B37_BF708066_BF70C501,
  0xBF710908_BF714C7A_BF718F57_BF71D19F_BF721352_BF725470_BF7294F8_BF72D4EB,
  0xBF731447_BF73530E_BF73913F_BF73CED9_BF740BDD_BF74484B_BF748422_BF74BF62,
  0xBF74FA0B_BF75341D_BF756D97_BF75A67B_BF75DEC6_BF76167A_BF764D97_BF76841B,
  0xBF76BA07_BF76EF5B_BF772417_BF77583A_BF778BC5_BF77BEB7_BF77F110_BF7822D1,
  0xBF7853F8_BF788486_BF78B47B_BF78E3D6_BF791298_BF7940C0_BF796E4E_BF799B43,
  0xBF79C79D_BF79F35E_BF7A1E84_BF7A4910_BF7A7302_BF7A9C59_BF7AC516_BF7AED37,
  0xBF7B14BE_BF7B3BAB_BF7B61FC_BF7B87B2_BF7BACCD_BF7BD14D_BF7BF531_BF7C187A,
  0xBF7C3B28_BF7C5D3A_BF7C7EB0_BF7C9F8A_BF7CBFC9_BF7CDF6C_BF7CFE73_BF7D1CDD,
  0xBF7D3AAC_BF7D57DE_BF7D7474_BF7D906E_BF7DABCC_BF7DC68C_BF7DE0B1_BF7DFA38,
  0xBF7E1324_BF7E2B72_BF7E4323_BF7E5A38_BF7E70B0_BF7E868B_BF7E9BC9_BF7EB069,
  0xBF7EC46D_BF7ED7D4_BF7EEA9D_BF7EFCC9_BF7F0E58_BF7F1F49_BF7F2F9D_BF7F3F54,
  0xBF7F4E6D_BF7F5CE9_BF7F6AC7_BF7F7808_BF7F84AB_BF7F90B1_BF7F9C18_BF7FA6E3,
  0xBF7FB10F_BF7FBA9E_BF7FC38F_BF7FCBE2_BF7FD397_BF7FDAAF_BF7FE129_BF7FE705,
  0xBF7FEC43_BF7FF0E3_BF7FF4E6_BF7FF84A_BF7FFB11_BF7FFD39_BF7FFEC4_BF7FFFB1]

/-- `SINE` (R175), indices 1536 to 1791, eight a row. -/
def sineRows6 : List Nat := [
  0xBF800000_BF7FFFB1_BF7FFEC4_BF7FFD39_BF7FFB11_BF7FF84A_BF7FF4E6_BF7FF0E3,
  0xBF7FEC43_BF7FE705_BF7FE129_BF7FDAAF_BF7FD397_BF7FCBE2_BF7FC38F_BF7FBA9E,
  0xBF7FB10F_BF7FA6E3_BF7F9C18_BF7F90B1_BF7F84AB_BF7F7808_BF7F6AC7_BF7F5CE9,
  0xBF7F4E6D_BF7F3F54_BF7F2F9D_BF7F1F49_BF7F0E58_BF7EFCC9_BF7EEA9D_BF7ED7D4,
  0xBF7EC46D_BF7EB069_BF7E9BC9_BF7E868B_BF7E70B0_BF7E5A38_BF7E4323_BF7E2B72,
  0xBF7E1324_BF7DFA38_BF7DE0B1_BF7DC68C_BF7DABCC_BF7D906E_BF7D7474_BF7D57DE,
  0xBF7D3AAC_BF7D1CDD_BF7CFE73_BF7CDF6C_BF7CBFC9_BF7C9F8A_BF7C7EB0_BF7C5D3A,
  0xBF7C3B28_BF7C187A_BF7BF531_BF7BD14D_BF7BACCD_BF7B87B2_BF7B61FC_BF7B3BAB,
  0xBF7B14BE_BF7AED37_BF7AC516_BF7A9C59_BF7A7302_BF7A4910_BF7A1E84_BF79F35E,
  0xBF79C79D_BF799B43_BF796E4E_BF7940C0_BF791298_BF78E3D6_BF78B47B_BF788486,
  0xBF7853F8_BF7822D1_BF77F110_BF77BEB7_BF778BC5_BF77583A_BF772417_BF76EF5B,
  0xBF76BA07_BF76841B_BF764D97_BF76167A_BF75DEC6_BF75A67B_BF756D97_BF75341D,
  0xBF74FA0B_BF74BF62_BF748422_BF74484B_BF740BDD_BF73CED9_BF73913F_BF73530E,
  0xBF731447_BF72D4EB_BF7294F8_BF725470_BF721352_BF71D19F_BF718F57_BF714C7A,
  0xBF710908_BF70C501_BF708066_BF703B37_BF6FF573_BF6FAF1B_BF6F6830_BF6F20B0,
  0xBF6ED89E_BF6E8FF8_BF6E46BE_BF6DFCF2_BF6DB293_BF6D67A1_BF6D1C1D_BF6CD007,
  0xBF6C835E_BF6C3624_BF6BE858_BF6B99FB_BF6B4B0C_BF6AFB8C_BF6AAB7B_BF6A5AD9,
  0xBF6A09A7_BF69B7E4_BF696591_BF6912AE_BF68BF3C_BF686B39_BF6816A8_BF67C187,
  0xBF676BD8_BF671599_BF66BECC_BF666771_BF660F88_BF65B710_BF655E0B_BF650479,
  0xBF64AA59_BF644FAC_BF63F473_BF6398AC_BF633C5A_BF62DF7B_BF628210_BF62241A,
  0xBF61C598_BF61668A_BF6106F2_BF60A6CF_BF604621_BF5FE4E9_BF5F8327_BF5F20DB,
  0xBF5EBE05_BF5E5AA6_BF5DF6BE_BF5D924D_BF5D2D53_BF5CC7D1_BF5C61C7_BF5BFB34,
  0xBF5B941A_BF5B2C79_BF5AC450_BF5A5BA0_BF59F26A_BF5988AD_BF591E6A_BF58B3A1,
  0xBF584853_BF57DC7F_BF577026_BF570348_BF5695E5_BF5627FE_BF55B993_BF554AA4,
  0xBF54DB31_BF546B3B_BF53FAC3_BF5389C7_BF531849_BF52A649_BF5233C6_BF51C0C2,
  0xBF514D3D_BF50D937_BF5064AF_BF4FEFA8_BF4F7A1F_BF4F0417_BF4E8D90_BF4E1689,
  0xBF4D9F02_BF4D26FD_BF4CAE79_BF4C3578_BF4BBBF8_BF4B41FA_BF4AC77F_BF4A4C87,
  0xBF49D112_BF495521_BF48D8B3_BF485BCA_BF47DE65_BF476085_BF46E22A_BF466354,
  0xBF45E403_BF456439_BF44E3F5_BF446337_BF43E200_BF436051_BF42DE29_BF425B89,
  0xBF41D870_BF4154E1_BF40D0DA_BF404C5C_BF3FC767_BF3F41FC_BF3EBC1B_BF3E35C5,
  0xBF3DAEF9_BF3D27B8_BF3CA003_BF3C17D9_BF3B8F3B_BF3B0629_BF3A7CA4_BF39F2AC,
  0xBF396842_BF38DD65_BF385216_BF37C655_BF373A23_BF36AD7F_BF36206C_BF3592E7]

/-- `SINE` (R175), indices 1792 to 2047, eight a row. -/
def sineRows7 : List Nat := [
  0xBF3504F3_BF34768F_BF33E7BC_BF33587A_BF32C8C9_BF3238AA_BF31A81D_BF311722,
  0xBF3085BB_BF2FF3E6_BF2F61A5_BF2ECEF7_BF2E3BDE_BF2DA859_BF2D1469_BF2C800F,
  0xBF2BEB4A_BF2B561B_BF2AC082_BF2A2A80_BF299415_BF28FD41_BF286605_BF27CE61,
  0xBF273656_BF269DE3_BF26050A_BF256BCB_BF24D225_BF24381A_BF239DA9_BF2302D3,
  0xBF226799_BF21CBFB_BF212FF9_BF209393_BF1FF6CB_BF1F599F_BF1EBC12_BF1E1E22,
  0xBF1D7FD1_BF1CE11F_BF1C420C_BF1BA299_BF1B02C6_BF1A6293_BF19C200_BF19210F,
  0xBF187FC0_BF17DE12_BF173C07_BF16999F_BF15F6D9_BF1553B7_BF14B039_BF140C5F,
  0xBF13682A_BF12C39A_BF121EB0_BF11796B_BF10D3CD_BF102DD5_BF0F8784_BF0EE0DB,
  0xBF0E39DA_BF0D9281_BF0CEAD0_BF0C42C9_BF0B9A6B_BF0AF1B7_BF0A48AD_BF099F4E,
  0xBF08F59B_BF084B92_BF07A136_BF06F686_BF064B82_BF05A02C_BF04F484_BF044889,
  0xBF039C3D_BF02EF9F_BF0242B1_BF019573_BF00E7E4_BF003A06_BEFF17B2_BEFDBABB,
  0xBEFC5D27_BEFAFEF7_BEF9A02D_BEF840C8_BEF6E0CB_BEF58035_BEF41F07_BEF2BD43,
  0xBEF15AEA_BEEFF7FB_BEEE9479_BEED3063_BEEBCBBB_BEEA6681_BEE900B7_BEE79A5D,
  0xBEE63375_BEE4CBFE_BEE363FA_BEE1FB6A_BEE0924F_BEDF28A9_BEDDBE79_BEDC53C1,
  0xBEDAE880_BED97CB9_BED8106B_BED6A399_BED53641_BED3C867_BED25A09_BED0EB2A,
  0xBECF7BCA_BECE0BEA_BECC9B8B_BECB2AAE_BEC9B953_BEC8477C_BEC6D529_BEC5625C,
  0xBEC3EF15_BEC27B55_BEC1071E_BEBF926F_BEBE1D4A_BEBCA7AF_BEBB31A0_BEB9BB1E,
  0xBEB8442A_BEB6CCC3_BEB554EC_BEB3DCA5_BEB263EF_BEB0EACB_BEAF713A_BEADF73C,
  0xBEAC7CD4_BEAB0201_BEA986C4_BEA80B1F_BEA68F12_BEA5129F_BEA395C5_BEA21887,
  0xBEA09AE5_BE9F1CDF_BE9D9E78_BE9C1FAF_BE9AA086_BE9920FE_BE97A117_BE9620D2,
  0xBE94A031_BE931F35_BE919DDD_BE901C2C_BE8E9A22_BE8D17C0_BE8B9507_BE8A11F7,
  0xBE888E93_BE870ADA_BE8586CE_BE840270_BE827DC0_BE80F8C0_BE7EE6E1_BE7BDBA4,
  0xBE78CFCC_BE75C35A_BE72B651_BE6FA8B2_BE6C9A7F_BE698BBA_BE667C66_BE636C83,
  0xBE605C13_BE5D4B1A_BE5A3997_BE57278F_BE541501_BE5101F1_BE4DEE60_BE4ADA4F,
  0xBE47C5C2_BE44B0B9_BE419B37_BE3E853E_BE3B6ECF_BE3857EC_BE354098_BE3228D4,
  0xBE2F10A2_BE2BF804_BE28DEFC_BE25C58C_BE22ABB6_BE1F917B_BE1C76DE_BE195BE0,
  0xBE164083_BE1324CA_BE1008B7_BE0CEC4A_BE09CF86_BE06B26E_BE039502_BE007745,
  0xBDFAB273_BDF475C0_BDEE3876_BDE7FA9A_BDE1BC2E_BDDB7D37_BDD53DB9_BDCEFDB7,
  0xBDC8BD36_BDC27C39_BDBC3AC3_BDB5F8DA_BDAFB680_BDA973BA_BDA3308C_BD9CECF9,
  0xBD96A905_BD9064B4_BD8A200A_BD83DB0A_BD7B2B74_BD6EA038_BD621469_BD55880E,
  0xBD48FB30_BD3C6DD5_BD2FE007_BD2351CB_BD16C32C_BD0A342F_BCFB49BA_BCE22A7A,
  0xBCC90AB0_BCAFEA69_BC96C9B6_BC7B514B_BC490E90_BC16CB58_BBC90F88_BB490FC6]

/-- `SINE` (R175), all rows. -/
def sineRows : List Nat :=
  sineRows0 ++ sineRows1 ++ sineRows2 ++ sineRows3 ++ sineRows4 ++ sineRows5 ++ sineRows6 ++ sineRows7

/-- `FREQ` (R176), indices 0 to 255, eight a row. -/
def freqRows : List Nat := [
  0x4102D013_410A9760_4112D517_411B9041_4124D054_412E9D37_4138FF49_4143FF6A,
  0x414FA700_415C0000_416914F6_4176F110_4182D013_418A9760_4192D517_419B9041,
  0x41A4D054_41AE9D37_41B8FF49_41C3FF6A_41CFA700_41DC0000_41E914F6_41F6F110,
  0x4202D013_420A9760_4212D517_421B9041_4224D054_422E9D37_4238FF49_4243FF6A,
  0x424FA700_425C0000_426914F6_4276F110_4282D013_428A9760_4292D517_429B9041,
  0x42A4D054_42AE9D37_42B8FF49_42C3FF6A_42CFA700_42DC0000_42E914F6_42F6F110,
  0x4302D013_430A9760_4312D517_431B9041_4324D054_432E9D37_4338FF49_4343FF6A,
  0x434FA700_435C0000_436914F6_4376F110_4382D013_438A9760_4392D517_439B9041,
  0x43A4D054_43AE9D37_43B8FF49_43C3FF6A_43CFA700_43DC0000_43E914F6_43F6F110,
  0x4402D013_440A9760_4412D517_441B9041_4424D054_442E9D37_4438FF49_4443FF6A,
  0x444FA700_445C0000_446914F6_4476F110_4482D013_448A9760_4492D517_449B9041,
  0x44A4D054_44AE9D37_44B8FF49_44C3FF6A_44CFA700_44DC0000_44E914F6_44F6F110,
  0x4502D013_450A9760_4512D517_451B9041_4524D054_452E9D37_4538FF49_4543FF6A,
  0x454FA700_455C0000_456914F6_4576F110_4582D013_458A9760_4592D517_459B9041,
  0x45A4D054_45AE9D37_45B8FF49_45C3FF6A_45CFA700_45DC0000_45E914F6_45F6F110,
  0x4602D013_460A9760_4612D517_461B9041_4624D054_462E9D37_4638FF49_4643FF6A,
  0x464FA700_465C0000_466914F6_4676F110_4682D013_468A9760_4692D517_469B9041,
  0x46A4D054_46AE9D37_46B8FF49_46C3FF6A_46CFA700_46DC0000_46E914F6_46F6F110,
  0x4702D013_470A9760_4712D517_471B9041_4724D054_472E9D37_4738FF49_4743FF6A,
  0x474FA700_475C0000_476914F6_4776F110_4782D013_478A9760_4792D517_479B9041,
  0x47A4D054_47AE9D37_47B8FF49_47C3FF6A_47CFA700_47DC0000_47E914F6_47F6F110,
  0x4802D013_480A9760_4812D517_481B9041_4824D054_482E9D37_4838FF49_4843FF6A,
  0x484FA700_485C0000_486914F6_4876F110_4882D013_488A9760_4892D517_489B9041,
  0x48A4D054_48AE9D37_48B8FF49_48C3FF6A_48CFA700_48DC0000_48E914F6_48F6F110,
  0x4902D013_490A9760_4912D517_491B9041_4924D054_492E9D37_4938FF49_4943FF6A,
  0x494FA700_495C0000_496914F6_4976F110_4982D013_498A9760_4992D517_499B9041,
  0x49A4D054_49AE9D37_49B8FF49_49C3FF6A_49CFA700_49DC0000_49E914F6_49F6F110,
  0x4A02D013_4A0A9760_4A12D517_4A1B9041_4A24D054_4A2E9D37_4A38FF49_4A43FF6A,
  0x4A4FA700_4A5C0000_4A6914F6_4A76F110_4A82D013_4A8A9760_4A92D517_4A9B9041,
  0x4AA4D054_4AAE9D37_4AB8FF49_4AC3FF6A_4ACFA700_4ADC0000_4AE914F6_4AF6F110,
  0x4B02D013_4B0A9760_4B12D517_4B1B9041_4B24D054_4B2E9D37_4B38FF49_4B43FF6A,
  0x4B4FA700_4B5C0000_4B6914F6_4B76F110_4B82D013_4B8A9760_4B92D517_4B9B9041]

/-- `LOG2P` (R178), indices 0 to 255, eight a row. -/
def log2pRows : List Nat := [
  0xC0B80000_C0B55555_C0B2AAAB_C0B00000_C0AD5555_C0AAAAAB_C0A80000_C0A55555,
  0xC0A2AAAB_C0A00000_C09D5555_C09AAAAB_C0980000_C0955555_C092AAAB_C0900000,
  0xC08D5555_C08AAAAB_C0880000_C0855555_C082AAAB_C0800000_C07AAAAB_C0755555,
  0xC0700000_C06AAAAB_C0655555_C0600000_C05AAAAB_C0555555_C0500000_C04AAAAB,
  0xC0455555_C0400000_C03AAAAB_C0355555_C0300000_C02AAAAB_C0255555_C0200000,
  0xC01AAAAB_C0155555_C0100000_C00AAAAB_C0055555_C0000000_BFF55555_BFEAAAAB,
  0xBFE00000_BFD55555_BFCAAAAB_BFC00000_BFB55555_BFAAAAAB_BFA00000_BF955555,
  0xBF8AAAAB_BF800000_BF6AAAAB_BF555555_BF400000_BF2AAAAB_BF155555_BF000000,
  0xBED55555_BEAAAAAB_BE800000_BE2AAAAB_BDAAAAAB_00000000_3DAAAAAB_3E2AAAAB,
  0x3E800000_3EAAAAAB_3ED55555_3F000000_3F155555_3F2AAAAB_3F400000_3F555555,
  0x3F6AAAAB_3F800000_3F8AAAAB_3F955555_3FA00000_3FAAAAAB_3FB55555_3FC00000,
  0x3FCAAAAB_3FD55555_3FE00000_3FEAAAAB_3FF55555_40000000_40055555_400AAAAB,
  0x40100000_40155555_401AAAAB_40200000_40255555_402AAAAB_40300000_40355555,
  0x403AAAAB_40400000_40455555_404AAAAB_40500000_40555555_405AAAAB_40600000,
  0x40655555_406AAAAB_40700000_40755555_407AAAAB_40800000_4082AAAB_40855555,
  0x40880000_408AAAAB_408D5555_40900000_4092AAAB_40955555_40980000_409AAAAB,
  0x409D5555_40A00000_40A2AAAB_40A55555_40A80000_40AAAAAB_40AD5555_40B00000,
  0x40B2AAAB_40B55555_40B80000_40BAAAAB_40BD5555_40C00000_40C2AAAB_40C55555,
  0x40C80000_40CAAAAB_40CD5555_40D00000_40D2AAAB_40D55555_40D80000_40DAAAAB,
  0x40DD5555_40E00000_40E2AAAB_40E55555_40E80000_40EAAAAB_40ED5555_40F00000,
  0x40F2AAAB_40F55555_40F80000_40FAAAAB_40FD5555_41000000_41015555_4102AAAB,
  0x41040000_41055555_4106AAAB_41080000_41095555_410AAAAB_410C0000_410D5555,
  0x410EAAAB_41100000_41115555_4112AAAB_41140000_41155555_4116AAAB_41180000,
  0x41195555_411AAAAB_411C0000_411D5555_411EAAAB_41200000_41215555_4122AAAB,
  0x41240000_41255555_4126AAAB_41280000_41295555_412AAAAB_412C0000_412D5555,
  0x412EAAAB_41300000_41315555_4132AAAB_41340000_41355555_4136AAAB_41380000,
  0x41395555_413AAAAB_413C0000_413D5555_413EAAAB_41400000_41415555_4142AAAB,
  0x41440000_41455555_4146AAAB_41480000_41495555_414AAAAB_414C0000_414D5555,
  0x414EAAAB_41500000_41515555_4152AAAB_41540000_41555555_4156AAAB_41580000,
  0x41595555_415AAAAB_415C0000_415D5555_415EAAAB_41600000_41615555_4162AAAB,
  0x41640000_41655555_4166AAAB_41680000_41695555_416AAAAB_416C0000_416D5555,
  0x416EAAAB_41700000_41715555_4172AAAB_41740000_41755555_4176AAAB_41780000]

/-- `DETUNE` (R177), by slot. -/
def detuneTable : List Nat := [
  0x3F7F68C1, 0x3F7F8000, 0x3F7F9741, 0x3F7FAE84, 0x3F7FC5CA, 0x3F7FDD11, 0x3F7FF45A,
  0x3F8005D3, 0x3F80117A, 0x3F801D22, 0x3F8028CB, 0x3F803475, 0x3F804020, 0x3F804BCC]

/-- Entry `i` of a table of eight-word rows. -/
def tableWordAt (rows : List Nat) (i : Nat) : F32 :=
  BitVec.ofNat 32 (rows.getD (i / 8) 0 / 2 ^ (32 * (7 - i % 8)))

/-- `SINE[i]`, `i = 0..2047` (R32, R91). -/
def sineEntry (i : Nat) : F32 := tableWordAt sineRows i

/-- `FREQ[p]`, `p = 0..255` (R32, R116). -/
def freqEntry (p : Nat) : F32 := tableWordAt freqRows p

/-- `LOG2P[p]`, `p = 0..255` (R32, R120). -/
def log2pEntry (p : Nat) : F32 := tableWordAt log2pRows p

/-- `DETUNE[s]`, `s = 0..13` (R32, R118). -/
def detuneEntry (s : Nat) : F32 := BitVec.ofNat 32 (detuneTable.getD s 0)

end Sys2Proof.Machine
end

