-- ==== Sys2Proof/Machine/Flags.lean ====
section
/-! DEFINITION. The flag-like state of the engine (spec R35): the fields of `STATUS` (R42), the `FLAGS` word of
a voice (R66), and the constant fields of `CONFIG` (R43). There are no condition codes. -/

namespace Sys2Proof.Machine

/-- The cause codes of R181. Code 0 means no fault; codes 4 to 15 are never produced. -/
def Cause.code : Cause → BitVec 4
  | .illcmd => 1
  | .length => 2
  | .agewrap => 3

/-- `STATUS` after a fault: `(c << 4) | 1` (R182). -/
def statusOf (c : Cause) : Word := 0#24 ++ c.code ++ 0#3 ++ 1#1

/-- `STATUS.FAULT`, bit 0 (R42). -/
def State.faulted (s : State) : Bool := s.status.getLsbD 0

/-- `STATUS.CAUSE`, bits 7:4 (R42). -/
def State.cause (s : State) : BitVec 4 := s.status.extractLsb' 4 4

/-- `STATUS` as the host reads it: bits 3:1 and 31:8 read as 0 (R42). -/
def State.statusRead (s : State) : Word := s.status &&& 0x000000F1#32

/-- The bit of `envelopeState`: 0 Attack, 1 Decay (R25). -/
def EnvState.bit : EnvState → BitVec 1
  | .attack => 0
  | .decay => 1

/-- The `FLAGS` word of a voice: bit 0 `active`, bit 1 `envelopeState`, the rest zero (R66). -/
def Voice.flags (v : Voice) : Word := 0#30 ++ v.envelopeState.bit ++ BitVec.ofBool v.active

/-- The `PMODE` bit (R43): 0 for the sawtooth mix, the only mode there is. -/
def pmodeBit : Config.PartialMode → BitVec 1
  | .saw => 0

/-- `CONFIG` (R43): `BLOCKMAX` in bits 31:16, `PMODE` in bit 8, `NVOICES` in bits 7:0. -/
def State.config (s : State) : Word :=
  BitVec.ofNat 16 s.params.blockMax ++ 0#7 ++ pmodeBit Config.partialMode ++ BitVec.ofNat 8 Config.numVoices

end Sys2Proof.Machine
end

