-- ==== Sys2Proof/Machine/Operands.lean ====
section
/-! DEFINITION. The operand forms (spec R74, R75, R78): `ARG0` as a phase or as a frequency, the table index of a
phase, and the sentinel of a `NOTEON` that allocates nothing. The operands in the command word, `PITCH`, `VEL` and
`NFRAMES`, are natural numbers the decoder makes (R75). -/

namespace Sys2Proof.Machine

/-- The operand of `SINEAT` and `SAWAT`: `ARG0` as an element of `U32` (R75). -/
def State.phaseOperand (s : State) : Word := s.arg0

/-- The operand of `PHINC`: `Fbits(ARG0)` (R75). -/
def State.frequencyOperand (s : State) : F32 := s.arg0

/-- `phase[31:21]`, the table index of a phase (R50, R99). -/
def phaseIndex (phase : Word) : Nat := (phase.extractLsb' 21 11).toNat

/-- `frameCount` as the word `OUTLEN` receives (R30, R155). -/
def frameCountWord (n : Nat) : Word := BitVec.ofNat 32 n

/-- `RESULT` of a `NOTEON` that selects slot `i`: the slot, zero-extended (R126). -/
def slotWord (i : Slot) : Word := BitVec.ofNat 32 i.val

/-- `RESULT` of a `NOTEON` with velocity 0 (R126). -/
def noVoiceWord : Word := 0xFFFFFFFF#32

end Sys2Proof.Machine
end

