-- ==== Sys2Proof/Machine/Ops.lean ====
section
/-! DEFINITION. The named operations over the state: the voice file, the draws of the entropy source, raising a
fault (R183) and, beside it, the only way out of one, reset (R189, R200), and the host's side of the bus. -/

namespace Sys2Proof.Machine

/-- The slots in ascending order (R17, R161). -/
def slots : List Slot := [0, 1, 2, 3, 4, 5, 6, 7, 8, 9, 10, 11, 12, 13]

/-- Voice `i` of a voice file (R14). -/
def voiceAt (vs : VoiceFile) (i : Slot) : Voice := vs[i.val]

/-- A voice file with voice `i` written (R14). -/
def writeVoice (vs : VoiceFile) (i : Slot) (v : Voice) : VoiceFile := vs.set i.val v

/-- Reads `V[i]` (R14). -/
def State.voice (s : State) (i : Slot) : Voice := voiceAt s.voices i

/-- Writes all fields of `V[i]` (R14). -/
def State.setVoice (s : State) (i : Slot) (v : Voice) : State :=
  { s with voices := writeVoice s.voices i v }

/-- `G.RESULT <- w`. -/
def State.setResult (s : State) (w : Word) : State := { s with result := w }

/-- `G.ARG0 <- w`. -/
def State.setArg0 (s : State) (w : Word) : State := { s with arg0 := w }

/-- `raise Fault(cause)` on the command word `w` (R183): `STATUS` and `FAULTCMD` and nothing else. The command ends
in this state, and the engine goes on as a faulted one (R184). -/
def State.raiseFault (s : State) (c : Cause) (w : Word) : State :=
  { s with status := statusOf c, faultcmd := w }

/-- `Reset()` (R200), the one way out of a fault (R189): all writable state of the engine to the values of R40. What
the engine is built with stays, the entropy source is not brought to a known state (R203), and the host's
side of the bus is not the engine's. -/
def State.resetEngine (s : State) : State :=
  { State.resetWith s.params with entropy := s.entropy, moves := s.moves, responses := s.responses }

/-- An answer the entropy source may give has a magnitude of at most `lim` and is no NaN (R193). What lies outside is
no answer of this hardware; it is taken as `+0.0`. See log entry 3. -/
def holdRange (lim x : F32) : F32 := if fle (fabs x) lim then x else fzero

/-- `DrawNoise()`: a value in `[-1.0, 1.0]` (R14, R146, U1). -/
def Entropy.noiseValue (e : Entropy) : F32 :=
  holdRange cOne (match e.noise with
    | x :: _ => x
    | [] => Config.freeNoise e.noiseDraws)

/-- The entropy source after one `DrawNoise()`. -/
def Entropy.afterNoise (e : Entropy) : Entropy :=
  { e with noise := e.noise.tail, noiseDraws := e.noiseDraws + 1 }

/-- `DrawJitter()`: a value in `[-C_JIT, C_JIT]` (R14, R121, U2). -/
def Entropy.jitterValue (e : Entropy) : F32 :=
  holdRange cJit (match e.jitter with
    | x :: _ => x
    | [] => Config.freeJitter e.jitterDraws)

/-- The entropy source after one `DrawJitter()`. -/
def Entropy.afterJitter (e : Entropy) : Entropy :=
  { e with jitter := e.jitter.tail, jitterDraws := e.jitterDraws + 1 }

/-- The bus takes the host's next move: it is no longer pending. -/
def State.takeMove (s : State) : State := { s with moves := s.moves.tail }

/-- The bus answers the access (R52, R53, R65). -/
def State.respond (s : State) (r : BusResponse) : State := { s with responses := r :: s.responses }

end Sys2Proof.Machine
end

