-- ==== Sys2Proof/Machine/Tuning.lean ====
section
/-! DEFINITION. `cents2ratio`, the engine's one run-time transcendental (spec R122): the reference instance, and
the law that any other instance keeps. See log entry 2. -/

namespace Sys2Proof.Machine

/-- Fixed-point bits of the evaluation. -/
def fixBits : Nat := 256

/-- `ln 2 * 2^256`, rounded down. -/
def ln2Fixed : Nat :=
  80260960185991308862233904206310070533990667611589946606122867505419956976171

/-- `sum of u^m/m!` from the term of index `j`, whose value is `term`, on: `fuel` terms of the series of `exp` in
fixed point. -/
def expSeries (u : Nat) : (fuel : Nat) → (j term : Nat) → Nat
  | 0, _, _ => 0
  | fuel + 1, j, term => term + expSeries u fuel (j + 1) (term * u / 2 ^ fixBits / (j + 1))

/-- The divisor of the exponent: `x / 1200` in units of `2^-149`. -/
def centsUnit : Nat := 1200 * 2 ^ 149

/-- The whole part of `x / 1200`. -/
def centsWhole (x : F32) : Int := sval x / (centsUnit : Int)

/-- `2^f * 2^256` rounded down, up to a few units, `f` in `[0, 1)` the fractional part of `x / 1200`. -/
def centsFraction (x : F32) : Nat :=
  expSeries ((sval x % (centsUnit : Int)).toNat * ln2Fixed / centsUnit) 64 0 (2 ^ fixBits)

/-- The reference instance `RN(2^(x/1200))` (R122). A NaN argument, which no command presents, gives a NaN. -/
def cents2ratioReference (x : F32) : F32 :=
  if isNaN x then nanResult 4 x x
  else if 128 ≤ centsWhole x then ofMag false 0x7F800000
  else if centsWhole x < -200 then fzero
  else roundF false (centsFraction x * 2 ^ (centsWhole x + 349).toNat) (2 ^ (fixBits + 200))

/-- The arguments for which R122 states its law: `-11 <= x <= 33`. -/
def inCentsRange (x : F32) : Bool := fle 0xC1300000#32 x && fle x 0x42040000#32

/-- The law of R122 for the value `r` at `x`: `|r - 2^(x/1200)| <= 2^-24 * 2^(x/1200)`. The exact power is known
from `centsFraction` to within `2^-224`, and a value is let through when any power in that interval admits it. -/
def centsLaw (x r : F32) : Bool :=
  let w := 2 ^ (centsWhole x + 349).toNat
  !signBit r && isFinite r &&
    decide (centsFraction x * w * (2 ^ 24 - 1) ≤ mag r * 2 ^ (fixBits + 200) * 2 ^ 24) &&
    decide (mag r * 2 ^ (fixBits + 200) * 2 ^ 24 ≤ (centsFraction x + 2 ^ 32) * w * (2 ^ 24 + 1))

/-- `cents2ratio` of an engine with the given parameters (R122, U14): the reference value, or the engine's own
where it has one that keeps the law. -/
def Params.cents2ratio (p : Params) (x : F32) : F32 :=
  match p.centsPoints.lookup x with
  | some r => if !inCentsRange x || centsLaw x r then r else cents2ratioReference x
  | none => cents2ratioReference x

end Sys2Proof.Machine
end

