-- ==== Sys2Proof/Machine/Oscillator.lean ====
section
/-! DEFINITION. The wavetable oscillator bank (spec 40_oscillator_bank.md): `sineAt`, `sawAt`,
`phaseIncrementFor`, and the query commands `SINEAT`, `SAWAT`, `PHINC`. -/

namespace Sys2Proof.Machine

/-- The one operation of a phase accumulator, `p +32 inc` (R90). -/
def advancePhase (p inc : Word) : Word := p + inc

/-- `sineAt(phase) = SINE[phase[31:21]]`, no interpolation (R92). -/
def sineAt (phase : Word) : F32 := sineEntry (phaseIndex phase)

/-- `sawAt(phase)`: the signed `s = phase - 2^31`, rounded once and scaled by `2^-31` (R94). -/
def sawAt (phase : Word) : F32 := ofIntScaled (phase ^^^ 0x80000000#32).toInt 31

/-- `phaseIncrementFor(f)` (R96): `floor(q + 1/2)` of the exact `q = f * 2^32 / 44100`, held to `[0, 2^32 - 1]`.
For a NaN the result is `open_`, a value the caller leaves free (U3). -/
def phaseIncrementFor (open_ : Word) (f : F32) : Word :=
  if isNaN f then open_
  else if signBit f then 0
  else if isInf f then 0xFFFFFFFF#32
  else
    let d := sampleRate * 2 ^ 117
    BitVec.ofNat 32 (min ((2 * mag f + d) / (2 * d)) (2 ^ 32 - 1))

/-- `SINEAT` (R93). -/
def execSineat (s : State) : Outcome := .next (s.setResult (sineAt s.phaseOperand))

/-- `SAWAT` (R95). -/
def execSawat (s : State) : Outcome := .next (s.setResult (sawAt s.phaseOperand))

/-- The environment after a `phaseIncrementFor(f)` of the host: an unspecified result uses up one free value. -/
def Entropy.afterPhinc (e : Entropy) (f : F32) : Entropy :=
  if isNaN f then { e with unspecified := e.unspecified + 1 } else e

/-- `PHINC` (R97). A NaN operand gives an unspecified `RESULT` and no fault. -/
def execPhinc (s : State) : Outcome :=
  .next { s.setResult (phaseIncrementFor (Config.freePhaseInc s.entropy.unspecified) s.frequencyOperand) with
    entropy := s.entropy.afterPhinc s.frequencyOperand }

end Sys2Proof.Machine
end

