-- ==== Sys2Proof/Machine/VoicePool.lean ====
section
/-! DEFINITION. The voice pool (spec 41_voice_pool.md): selection and stealing, the pitch, detune and
inharmonicity mapping, allocation, and the command `NOTEON`. -/

namespace Sys2Proof.Machine

/-- Step 1 of `Select` (R114): the lowest-index inactive voice. -/
def firstInactive (vs : VoiceFile) : Option Slot := slots.find? (fun i => !(voiceAt vs i).active)

/-- Whether voice `a` is stolen before voice `b` (R115): the smaller envelope, then the smaller age. -/
def stealBefore (a b : Voice) : Bool :=
  flt a.envelope b.envelope || (feq a.envelope b.envelope && decide (a.age.toNat < b.age.toNat))

/-- Step 2 of `Select` (R115): the scan from slot 1 up that starts with slot 0. -/
def quietest (vs : VoiceFile) : Slot :=
  slots.tail.foldl (fun b i => if stealBefore (voiceAt vs i) (voiceAt vs b) then i else b) 0

/-- `Select()` (R113): always succeeds. -/
def select (vs : VoiceFile) : Slot :=
  match firstInactive vs with
  | some i => i
  | none => quietest vs

/-- `f1`, the frequency of the primary oscillator (R116, R119). -/
def primaryFrequency (pitch : Nat) (i : Slot) : F32 := fmul (freqEntry pitch) (detuneEntry i.val)

/-- `inh`, the inharmonicity in cents, with the jitter draw `j` (R120). -/
def inharmonicity (pitch : Nat) (j : F32) : F32 :=
  fadd (fadd cInhBase (fmul cTwo (log2pEntry pitch))) j

/-- `f2`, the frequency of the secondary oscillator, one octave above the detuned fundamental (R123). -/
def secondaryFrequency (p : Params) (pitch : Nat) (i : Slot) (j : F32) : F32 :=
  fmul (fmul cTwo (primaryFrequency pitch i)) (p.cents2ratio (inharmonicity pitch j))

/-- All 14 fields of the voice that an allocation writes (R112, R124). `open_` is the result of
`phaseIncrementFor` on a NaN, which neither frequency is (R100). -/
def allocatedVoice (p : Params) (open_ : Word) (pitch : Nat) (i : Slot) (j : F32) (age : Word) : Voice :=
  { active := true
    phase := 0
    phaseInc := phaseIncrementFor open_ (primaryFrequency pitch i)
    phase2 := 0
    phase2Inc := phaseIncrementFor open_ (secondaryFrequency p pitch i j)
    envelope := cEnvInit
    envelopeState := .attack
    attackCoeff := cAttack
    decayCoeff := cDecay
    pluckEnvelope := cOne
    pluckDecayCoeff := cPdecay
    pluckFilterState := fzero
    age := age
    detuneRatio := detuneEntry i.val }

/-- The allocating part of `NOTEON` (R112): one jitter draw, all fields of the selected voice, `AGECTR` and `RESULT`. -/
def State.allocate (s : State) (pitch : Nat) : State :=
  let i := select s.voices
  let v := allocatedVoice s.params (Config.freePhaseInc s.entropy.unspecified) pitch i s.entropy.jitterValue s.agectr
  { (s.setVoice i v).setResult (slotWord i) with
    agectr := s.agectr + 1, entropy := s.entropy.afterJitter }

/-- `NOTEON pitch, velocity` (R112). -/
def execNoteon (pitch velocity : Nat) (s : State) : Outcome :=
  if velocity = 0 then .next (s.setResult noVoiceWord)
  else if s.agectr = 0xFFFFFFFF#32 then .next (s.raiseFault .agewrap (encode (.noteon pitch velocity)))
  else .next (s.allocate pitch)

end Sys2Proof.Machine
end

