-- ==== Sys2Proof/Machine/Envelope.lean ====
section
/-! DEFINITION. The envelope generator (spec 42_envelope.md): `EnvStep`. -/

namespace Sys2Proof.Machine

/-- The Attack branch of `EnvStep` (R136, R137). -/
def attackStep (v : Voice) : Voice :=
  let e := fadd v.envelope (fmul (fsub cOne v.envelope) v.attackCoeff)
  { v with envelope := e, envelopeState := if fgt e cThrHi then .decay else .attack }

/-- The Decay branch of `EnvStep` (R136, R138). -/
def decayStep (v : Voice) : Voice :=
  let e := fmul v.envelope v.decayCoeff
  if flt e cThrLo then { v with envelope := fzero, active := false } else { v with envelope := e }

/-- `EnvStep(i)` on the voice (R136): exactly one branch, chosen by the state at entry. -/
def envStep (v : Voice) : Voice :=
  match v.envelopeState with
  | .attack => attackStep v
  | .decay => decayStep v

end Sys2Proof.Machine
end

