-- ==== Sys2Proof/Machine/Pluck.lean ====
section
/-! DEFINITION. The pluck transient generator (spec 43_pluck.md): `PluckStep`. -/

namespace Sys2Proof.Machine

/-- Whether the transient still runs: `pluckEnvelope > C_THR_LO` (R146, R148). -/
def pluckRuns (v : Voice) : Bool := fgt v.pluckEnvelope cThrLo

/-- The filter state after a draw `n`: one pole, moved by `C_ALPHA` of the distance (R146). -/
def filtered (f n : F32) : F32 := fadd f (fmul cAlpha (fsub n f))

/-- What `PluckStep` returns (R146): the filter state after its update times the envelope before its decay, or
exactly `+0.0` once frozen (R148). -/
def pluckValue (v : Voice) (e : Entropy) : F32 :=
  if pluckRuns v then fmul (filtered v.pluckFilterState e.noiseValue) v.pluckEnvelope else fzero

/-- The voice after `PluckStep` (R146): unchanged once frozen (R148). -/
def pluckVoice (v : Voice) (e : Entropy) : Voice :=
  if pluckRuns v then
    { v with pluckFilterState := filtered v.pluckFilterState e.noiseValue,
             pluckEnvelope := fmul v.pluckEnvelope v.pluckDecayCoeff }
  else v

/-- The entropy source after `PluckStep`: one draw while the transient runs, none after (R146). -/
def pluckEntropy (v : Voice) (e : Entropy) : Entropy := if pluckRuns v then e.afterNoise else e

end Sys2Proof.Machine
end

