-- ==== Sys2Proof/Machine/Renderer.lean ====
section
/-! DEFINITION. The renderer and mixer (spec 44_renderer_mixer.md): the frame of a voice, the block, the soft
clip, the PCM conversion, and the command `RENDER`. -/

namespace Sys2Proof.Machine

/-- `softclip(x) = x / (1 + |x|)` (R158). -/
def softclip (x : F32) : F32 := fdiv x (fadd cOne (fabs x))

/-- `y` held to `[-1.0, 1.0]` (R165). -/
def clampUnit (y : F32) : F32 :=
  if fgt y cOne then cOne else if flt y (fneg cOne) then fneg cOne else y

/-- `pcm16(y)` for a `y` that is no NaN (R165): clamp, one product with 12000, truncation toward zero. -/
def pcm16 (y : F32) : Int := truncToInt (fmul (clampUnit y) cPcm)

/-- `P`, the 16-bit two's complement pattern of `pcm16` (R67, R165). For a NaN R165 states no result, and the pattern
is a free value (log entry 7). -/
def pcmPattern (y : F32) : BitVec 16 := if isNaN y then Config.freePcm y else BitVec.ofInt 16 (pcm16 y)

/-- `s = sineAt(phase) + 0.15 * sawAt(phase2)` (R155, R166). -/
def toneSample (v : Voice) : F32 := fadd (sineAt v.phase) (fmul cSawW (sawAt v.phase2))

/-- `c`, what the voice adds to the frame when `PluckStep` returned `p` (R155, R156). -/
def mixSample (v : Voice) (p : F32) : F32 :=
  fmul (fadd (fmul (toneSample v) v.envelope) (fmul p cPluckW)) cMaster

/-- Both phase accumulators advance (R155). -/
def advancePhases (v : Voice) : Voice :=
  { v with phase := advancePhase v.phase v.phaseInc, phase2 := advancePhase v.phase2 v.phase2Inc }

/-- What one frame of a voice adds to its output sample (R155). -/
def frameSample (v : Voice) (e : Entropy) : F32 := mixSample v (pluckValue v e)

/-- The voice after one frame (R155): pluck, then the phases, then the envelope. -/
def frameVoice (v : Voice) (e : Entropy) : Voice := envStep (advancePhases (pluckVoice v e))

/-- What a voice did in a block: the samples it added, frame 0 first, and the voice and the entropy source after. -/
structure VoiceRun where
  samples : List F32
  voice : Voice
  entropy : Entropy
  deriving DecidableEq, Repr

/-- The frame loop of one voice over `n` frames (R155), which ends at once when the voice deactivates (R157). -/
def runVoice : (n : Nat) → Voice → Entropy → VoiceRun
  | 0, v, e => ⟨[], v, e⟩
  | n + 1, v, e =>
    let v' := frameVoice v e
    let e' := pluckEntropy v e
    if v'.active then
      let r := runVoice n v' e'
      ⟨frameSample v e :: r.samples, r.voice, r.entropy⟩
    else ⟨[frameSample v e], v', e'⟩

/-- `OUT[k] <- OUT[k] (+) c` for the frames a voice ran; the later entries stay (R155, R157). -/
def accumulate : (acc samples : List F32) → List F32
  | [], _ => []
  | acc, [] => acc
  | o :: acc, c :: samples => fadd o c :: accumulate acc samples

/-- A block being mixed: the accumulator `OUT[0..n-1]`, the voice file and the entropy source. -/
structure Mix where
  acc : List F32
  voices : VoiceFile
  entropy : Entropy
  deriving DecidableEq, Repr

/-- One voice's part of the block: nothing when it is inactive, otherwise its frame loop (R155). -/
def mixVoice (n : Nat) (m : Mix) (i : Slot) : Mix :=
  if (voiceAt m.voices i).active then
    let r := runVoice n (voiceAt m.voices i) m.entropy
    ⟨accumulate m.acc r.samples, writeVoice m.voices i r.voice, r.entropy⟩
  else m

/-- The block of `n` frames: the zeroed accumulator and the voices in ascending slot order (R155, R161). -/
def mixBlock (n : Nat) (vs : VoiceFile) (e : Entropy) : Mix :=
  slots.foldl (mixVoice n) ⟨List.replicate n fzero, vs, e⟩

/-- The state once the block `m` of `n` frames is mixed: the soft clip over `OUT[0..n-1]`, `OUT[n..]` as it was (R163),
and `OUTLEN` (R155). -/
def State.withBlock (s : State) (n : Nat) (m : Mix) : State :=
  { s with voices := m.voices, entropy := m.entropy,
           out := m.acc.map softclip ++ s.out.drop n, outlen := frameCountWord n }

/-- `RENDER n` for `n <= BLOCK_MAX` (R155). -/
def State.renderBlock (s : State) (n : Nat) : State := s.withBlock n (mixBlock n s.voices s.entropy)

/-- `RENDER n` (R155). -/
def execRender (n : Nat) (s : State) : Outcome :=
  if s.params.blockMax < n then .next (s.raiseFault .length (encode (.render n)))
  else .next (s.renderBlock n)

end Sys2Proof.Machine
end

