-- ==== Sys2Proof/Machine/Dispatch.lean ====
section
/-! DEFINITION. Which meaning each command has (spec R76, R82). -/

namespace Sys2Proof.Machine

def exec (i : Instr) (s : State) : Host.Outcome State Fault Refusal :=
  match i with
  | .noteon pitch velocity => Sys2Proof.Machine.execNoteon pitch velocity s
  | .render nframes => Sys2Proof.Machine.execRender nframes s
  | .sineat => Sys2Proof.Machine.execSineat s
  | .sawat => Sys2Proof.Machine.execSawat s
  | .phinc => Sys2Proof.Machine.execPhinc s

end Sys2Proof.Machine
end

