-- ==== Sys2Proof/Machine/Window.lean ====
section
/-! DEFINITION. The host window (spec 20_memory.md): what each address reads as, the two accesses `BusRead` and
`BusWrite`, and the execution of a command word (R82). -/

namespace Sys2Proof.Machine

/-- The word at byte offset `o` of a voice's 16 words (R66). -/
def Voice.windowWord (v : Voice) (o : Nat) : Word :=
  match o / 4 with
  | 0 => v.flags
  | 1 => v.phase
  | 2 => v.phaseInc
  | 3 => v.phase2
  | 4 => v.phase2Inc
  | 5 => v.envelope
  | 6 => v.attackCoeff
  | 7 => v.decayCoeff
  | 8 => v.pluckEnvelope
  | 9 => v.pluckDecayCoeff
  | 10 => v.pluckFilterState
  | 11 => v.age
  | 12 => v.detuneRatio
  | _ => 0

/-- The control words at `0x0000` to `0x0024` (R57). -/
def State.controlWord (s : State) : (index : Nat) → Option Word
  | 0 => some 0
  | 1 => some s.arg0
  | 2 => some s.result
  | 3 => some s.statusRead
  | 4 => some s.outlen
  | 5 => some s.agectr
  | 6 => some s.config
  | 7 => some (BitVec.ofNat 32 sampleRate)
  | 8 => some cAlpha
  | 9 => some s.faultcmd
  | _ => none

/-- The slot whose 16 words hold byte offset `o` of the voice window (R66). -/
def windowSlot (o : Nat) : Slot := Fin.ofNat Config.numVoices (o / 0x40)

/-- `OUT[k]` (R34). -/
def State.outEntry (s : State) (k : Nat) : F32 := s.out.getD k fzero

/-- The frame word of `OUTPCM[k]`: `(P << 16) | P` (R67). -/
def State.pcmWord (s : State) (k : Nat) : Word := pcmPattern (s.outEntry k) ++ pcmPattern (s.outEntry k)

/-- The 32-bit word at an address, none where the map has nothing to read or the address is misaligned (R52, R55,
R57). -/
def State.readWord (s : State) (addr : Addr) : Option Word :=
  let a := addr.toNat
  if a % 4 ≠ 0 then none
  else if a < 0x0100 then s.controlWord (a / 4)
  else if a < 0x0480 then some ((s.voice (windowSlot (a - 0x0100))).windowWord ((a - 0x0100) % 0x40))
  else if a < 0x1000 then none
  else if a < 0x1400 then some (freqEntry ((a - 0x1000) / 4))
  else if a < 0x1800 then some (log2pEntry ((a - 0x1400) / 4))
  else if a < 0x1838 then some (detuneEntry ((a - 0x1800) / 4))
  else if a < 0x2000 then none
  else if a < 0x4000 then some (sineEntry ((a - 0x2000) / 4))
  else if a < 0x8000 then
    (if a < 0x4000 + 4 * s.params.blockMax then some (s.outEntry ((a - 0x4000) / 4)) else none)
  else
    (if a < 0x8000 + 4 * s.params.blockMax then some (s.pcmWord ((a - 0x8000) / 4)) else none)

/-- The byte at an address as a host that views the window as bytes sees it: little-endian (R54). -/
def State.readByteView (s : State) (addr : Addr) : Option Byte :=
  (s.readWord (addr - BitVec.ofNat 16 (addr.toNat % 4))).map
    (fun w => w.extractLsb' (8 * (addr.toNat % 4)) 8)

/-- `BusRead` of `bytes` bytes (R52, R56): one width, no effect on the engine, an error response otherwise (R65). -/
def State.busRead (s : State) (bytes : Nat) (addr : Addr) : BusResponse :=
  if bytes = 4 then
    match s.readWord addr with
    | some w => .data w
    | none => .error
  else .error

/-- `Execute(w)` (R82): a faulted engine ignores the word (R184), a word that is no command raises `ILLCMD` (R77). -/
def execute (w : Word) (s : State) : Outcome :=
  if s.faulted then .next s
  else match decode w with
    | .ok i => exec i s
    | .error _ => .next (s.raiseFault .illcmd w)

/-- `BusWrite` of `bytes` bytes (R53, R56): a command at `0x0000`, `ARG0` at `0x0004`, an error response that changes
nothing otherwise (R65). The answer is noted first; no command reads or writes the host's side of the bus. -/
def busWrite (bytes : Nat) (addr : Addr) (v : Word) (s : State) : Outcome :=
  if bytes = 4 ∧ addr = 0x0000#16 then execute v (s.respond .written)
  else if bytes = 4 ∧ addr = 0x0004#16 then .next ((s.respond .written).setArg0 v)
  else .next (s.respond .error)

/-- One move of the host, the engine being idle (R15, R58). -/
def hostMove (m : HostMove) (s : State) : Outcome :=
  match m with
  | .read bytes addr => .next (s.respond (s.busRead bytes addr))
  | .write bytes addr v => busWrite bytes addr v s
  | .reset => .next s.resetEngine

/-- The move that delivers a command word: `BusWrite(0x0000, w)` (R53). -/
def commandMove (w : Word) : HostMove := .write 4 0x0000#16 w

end Sys2Proof.Machine
end

