-- ==== Sys2Proof/Machine/Step.lean ====
section
/-! DEFINITION. One step of the machine: the host's next move, performed to completion (spec R15, R58); with no move
pending the engine is idle and nothing changes (R196, R202). -/

namespace Sys2Proof.Machine

/-- One step. -/
def step (s : State) : Host.Outcome State Fault Refusal :=
  match s.moves with
  | [] => .next s
  | m :: _ => hostMove m s.takeMove

/-- `s` with the command word of the opcode-table word `w` as the host's next move, so that the next step
delivers and runs it: there is no stored program, a command comes by value (R31, R62). -/
def State.withFetchWord (s : State) (nbits w : Nat) : State :=
  { s with moves := commandMove (tableWord nbits w) :: s.moves }

end Sys2Proof.Machine
end

