-- ==== Sys2Proof/Machine/Script.lean ====
section
/-! DEFINITION. Host scripts (spec R80, R81), the driver protocol (R205) and the end of a run (R206): how a program of this
hardware, a list of the host's moves, is written down and run. -/

namespace Sys2Proof.Machine

/-- The registers of a voice in the window, by name (R66). -/
inductive VoiceReg where
  | flags | phase | phaseInc | phase2 | phase2Inc | envelope | attackCoeff | decayCoeff | pluckEnv | pluckDecay
  | pluckFilt | age | detuneRatio
  deriving DecidableEq, Repr

/-- What `RD` can name (R57, R66, R67, R80). -/
inductive WindowReg where
  | cmd | arg0 | result | status | outlen | agectr | config | srate | alpha | faultcmd
  | voice (i : Slot) (r : VoiceReg)
  | freq (p : Nat) | log2p (p : Nat) | detune (s : Nat) | sine (i : Nat)
  | out (k : Nat) | outpcm (k : Nat)
  deriving DecidableEq, Repr

/-- The offset within a voice's 16 words (R66). -/
def VoiceReg.offset : VoiceReg → Nat
  | .flags => 0x00
  | .phase => 0x04
  | .phaseInc => 0x08
  | .phase2 => 0x0C
  | .phase2Inc => 0x10
  | .envelope => 0x14
  | .attackCoeff => 0x18
  | .decayCoeff => 0x1C
  | .pluckEnv => 0x20
  | .pluckDecay => 0x24
  | .pluckFilt => 0x28
  | .age => 0x2C
  | .detuneRatio => 0x30

/-- The byte address of a register (R57, R66, R67). -/
def WindowReg.addr (r : WindowReg) : Addr :=
  BitVec.ofNat 16 (match r with
    | .cmd => 0x0000
    | .arg0 => 0x0004
    | .result => 0x0008
    | .status => 0x000C
    | .outlen => 0x0010
    | .agectr => 0x0014
    | .config => 0x0018
    | .srate => 0x001C
    | .alpha => 0x0020
    | .faultcmd => 0x0024
    | .voice i r => 0x0100 + 0x40 * i.val + r.offset
    | .freq p => 0x1000 + 4 * p
    | .log2p p => 0x1400 + 4 * p
    | .detune s => 0x1800 + 4 * s
    | .sine i => 0x2000 + 4 * i
    | .out k => 0x4000 + 4 * k
    | .outpcm k => 0x8000 + 4 * k)

/-- One item of a host script: a command, the directives `WARG`, `RD name` and `RD address` (R80), the reset input, and
the pseudo-instructions of R81. -/
inductive ScriptItem where
  | command (i : Instr)
  | warg (value : Word)
  | rd (r : WindowReg)
  | rdAt (addr : Addr)
  | reset
  | block
  | qsine (phase : Word)
  | qsaw (phase : Word)
  | qphinc (value : Word)
  | trigger (pitch velocity : Nat)
  deriving DecidableEq, Repr

/-- `RD r`. -/
def readMove (r : WindowReg) : HostMove := .read 4 r.addr

/-- `WARG value`. -/
def wargMove (value : Word) : HostMove := .write 4 WindowReg.arg0.addr value

/-- The host's moves a script item stands for (R80, R81). -/
def ScriptItem.moves : ScriptItem → List HostMove
  | .command i => [commandMove (encode i)]
  | .warg value => [wargMove value]
  | .rd r => [readMove r]
  | .rdAt addr => [.read 4 addr]
  | .reset => [.reset]
  | .block => [commandMove (encode (.render 128))]
  | .qsine phase => [wargMove phase, commandMove (encode .sineat), readMove .result]
  | .qsaw phase => [wargMove phase, commandMove (encode .sawat), readMove .result]
  | .qphinc value => [wargMove value, commandMove (encode .phinc), readMove .result]
  | .trigger pitch velocity => [commandMove (encode (.noteon pitch velocity)), readMove .result]

/-- The moves of a script, in order. -/
def scriptMoves (script : List ScriptItem) : List HostMove := script.flatMap ScriptItem.moves

/-- A value written `f:<decimal>`, the decimal being `num/den` (R80): `bitsF(RN(num/den))`. -/
def decimalWord (neg : Bool) (num den : Nat) : Word := roundF neg (num * 2 ^ 149) den

/-- One round of the driver protocol (R205): the pending events in arrival order, a block of the sink's 128 frames, and
the block read out in the sink's format. -/
def driverRound (events : List (Nat × Nat)) : List HostMove :=
  events.map (fun e => commandMove (encode (.noteon e.1 e.2))) ++
    commandMove (encode (.render 128)) :: (List.range 128).map (fun k => readMove (.outpcm k))

/-- A run from a state with the moves of the host given (R206): one step a move, until none is left. -/
def State.run (s : State) (moves : List HostMove) : Outcome :=
  Sys2Proof.core.run moves.length { s with moves := moves }

/-- The run has ended well (R206): no move is left, and no fault was raised. -/
def State.endedWell (s : State) : Bool := s.moves.isEmpty && !s.faulted

end Sys2Proof.Machine
end

