-- ==== Sys2Proof/Safety.lean ====
section
/-! DEFINITION. What a sound state is, in the words of the spec (R9, R37, R39, R42, R159, R187): the invariants that
claims speak of, and what it means that two states hold the same engine. -/

namespace Sys2Proof.Machine

/-! ### Parameters and the output buffer -/

/-- `BLOCK_MAX` of an engine of this spec (R9). -/
abbrev Params.Legal (p : Params) : Prop :=
  Config.blockMaxLeast ≤ p.blockMax ∧ p.blockMax ≤ Config.blockMaxGreatest

/-- The output buffer has its canonical form, and `OUTLEN` is a block length (R30, R34). -/
abbrev State.BufferSound (s : State) : Prop :=
  Memory.wf s.params.blockMax s.out ∧ s.outlen.toNat ≤ s.params.blockMax

/-- A sample the engine produces: finite, and below 0.71 in magnitude (R159). -/
def SampleSound (y : F32) : Prop := isFinite y = true ∧ 100 * mag y < 71 * 2 ^ 149

/-- Every entry of `OUT` is such a sample (R39 (e), R159). -/
def State.OutputSound (s : State) : Prop := ∀ y ∈ s.out, SampleSound y

/-! ### Voices -/

/-- The voice has been allocated since reset: `detuneRatio` is 0 until the first allocation and a table entry, never
0, from then on (R29, R40). -/
def Voice.everAllocated (v : Voice) : Bool := v.detuneRatio != fzero

/-- The bounds of R39 (b), (c), (d), R140 and R150 for the voice in slot `i`, and the constants an allocation left. -/
structure Voice.Sound (i : Slot) (v : Voice) : Prop where
  /-- Only an allocated voice is active (R21). -/
  allocated : v.active = true → v.everAllocated = true
  /-- `detuneRatio` is fixed by the slot (R29). -/
  detune : v.everAllocated = true → v.detuneRatio = detuneEntry i.val
  /-- The coefficients are the constants an allocation writes, or the zeros of reset (R26, R27). -/
  attackCoeff : v.attackCoeff = if v.everAllocated = true then cAttack else fzero
  decayCoeff : v.decayCoeff = if v.everAllocated = true then cDecay else fzero
  pluckDecayCoeff : v.pluckDecayCoeff = if v.everAllocated = true then cPdecay else fzero
  /-- An active voice has `C_THR_LO <= envelope < 0.9903` (R39 (b), R140). -/
  envelopeLow : v.active = true → fle cThrLo v.envelope = true
  envelopeHigh : v.active = true → 10000 * mag v.envelope < 9903 * 2 ^ 149
  /-- An Attack step leaves Attack once the envelope exceeds `C_THR_HI` (R137). -/
  attackHigh : v.active = true → v.envelopeState = .attack → fle v.envelope cThrHi = true
  /-- An inactive voice has `envelope = +0.0` (R39 (c)). -/
  inactive : v.active = false → v.envelope = fzero
  /-- `0 <= pluckEnvelope <= 1`, and above 0 once allocated (R39 (d), R150). -/
  pluckLow : fle fzero v.pluckEnvelope = true
  pluckHigh : fle v.pluckEnvelope cOne = true
  pluckPositive : v.everAllocated = true → fgt v.pluckEnvelope fzero = true
  /-- `|pluckFilterState| <= 1` (R39 (d), R150). -/
  filter : fle (fabs v.pluckFilterState) cOne = true

/-- Every voice of the voice file is sound. -/
def State.VoicesSound (s : State) : Prop := ∀ i : Slot, Voice.Sound i (s.voice i)

/-- R39 (a): voices that have been allocated have pairwise different ages, all handed out already. -/
structure State.AgesSound (s : State) : Prop where
  issued : ∀ i : Slot, (s.voice i).everAllocated = true → (s.voice i).age.toNat < s.agectr.toNat
  distinct : ∀ i j : Slot, (s.voice i).everAllocated = true → (s.voice j).everAllocated = true →
    (s.voice i).age = (s.voice j).age → i = j

/-! ### The fault record -/

/-- What the record of a fault with cause `c` says of the engine and of the recorded word (R181, R187). -/
def State.FaultedBy (s : State) (c : Cause) : Prop :=
  s.status = statusOf c ∧
    match c with
    | .illcmd => ∃ e, decode s.faultcmd = .error e
    | .length => ∃ n, decode s.faultcmd = .ok (.render n) ∧ s.params.blockMax < n
    | .agewrap => ∃ pitch velocity, decode s.faultcmd = .ok (.noteon pitch velocity) ∧ velocity ≠ 0 ∧
        s.agectr = 0xFFFFFFFF#32

/-- `STATUS` and `FAULTCMD` are both 0, or a record of a fault that the recorded word raises on this engine (R42, R182,
R183). -/
def State.FaultRecordSound (s : State) : Prop :=
  (s.status = 0#32 ∧ s.faultcmd = 0#32) ∨ ∃ c, s.FaultedBy c

/-! ### The whole engine -/

/-- All of the above together. -/
structure State.Sound (s : State) : Prop where
  buffer : s.BufferSound
  output : s.OutputSound
  voices : s.VoicesSound
  ages : s.AgesSound
  fault : s.FaultRecordSound

/-- Two states hold the same engine: all that the spec gives it, and its parameters. They may differ in the
entropy source and in the host's side of the bus. -/
structure State.SameEngine (s t : State) : Prop where
  voices : t.voices = s.voices
  out : t.out = s.out
  agectr : t.agectr = s.agectr
  arg0 : t.arg0 = s.arg0
  result : t.result = s.result
  status : t.status = s.status
  faultcmd : t.faultcmd = s.faultcmd
  outlen : t.outlen = s.outlen
  params : t.params = s.params

/-- The fields of a voice that no noise and no jitter draw reaches (R203): all but the secondary oscillator and the
filter state. -/
structure Voice.SameUpToDraws (v w : Voice) : Prop where
  active : w.active = v.active
  phase : w.phase = v.phase
  phaseInc : w.phaseInc = v.phaseInc
  envelope : w.envelope = v.envelope
  envelopeState : w.envelopeState = v.envelopeState
  attackCoeff : w.attackCoeff = v.attackCoeff
  decayCoeff : w.decayCoeff = v.decayCoeff
  pluckEnvelope : w.pluckEnvelope = v.pluckEnvelope
  pluckDecayCoeff : w.pluckDecayCoeff = v.pluckDecayCoeff
  age : w.age = v.age
  detuneRatio : w.detuneRatio = v.detuneRatio

/-- Two states that differ only in what a draw can reach (R203): the secondary oscillators, the filter states, the
samples, `RESULT`, the entropy source and the answers on the bus. -/
structure State.SameUpToDraws (s t : State) : Prop where
  voices : ∀ i : Slot, Voice.SameUpToDraws (s.voice i) (t.voice i)
  agectr : t.agectr = s.agectr
  arg0 : t.arg0 = s.arg0
  status : t.status = s.status
  faultcmd : t.faultcmd = s.faultcmd
  outlen : t.outlen = s.outlen
  params : t.params = s.params
  moves : t.moves = s.moves

end Sys2Proof.Machine
end

