-- ==== Sys2Proof/Certificates/Slice0/Obligations.lean ====
section
/-! DEFINITION. The statements for the provers. Each docstring names the rule of the spec it formalises. Before them
stand the words they use: the value of a binary32 pattern, what it is to be the rounding of a number, and the
pseudocode of `RENDER` written out as the spec writes it. -/

namespace Sys2Proof.Machine

/-! ### Values and rounding (R11, R12) -/

/-- The value of a finite binary32 pattern (R11). -/
def fval (x : F32) : ℚ := (sval x : ℚ) / 2 ^ 149

/-- `r` is `RN(x)` (R11): below the overflow threshold the nearest finite value, of two nearest the one with the even
fraction; from the threshold on an infinity. The sign is that of `x` where `x` is not 0. -/
def IsRN (x : ℚ) (r : F32) : Prop :=
  (|x| < 2 ^ 128 - 2 ^ 103 →
    isFinite r = true ∧
    (∀ y, isFinite y = true → |fval r - x| ≤ |fval y - x|) ∧
    (∀ y, isFinite y = true → fval y ≠ fval r → |fval y - x| = |fval r - x| → r.toNat % 2 = 0)) ∧
  (2 ^ 128 - 2 ^ 103 ≤ |x| → isInf r = true) ∧
  (x < 0 → signBit r = true) ∧ (0 < x → signBit r = false)

/-- The real number `2^(x/1200)` of which `cents2ratio(x)` is the rounding (R122). -/
noncomputable def centsPower (x : F32) : ℝ := (2 : ℝ) ^ ((fval x : ℝ) / 1200)

/-! ### The draws of a block, by voice and frame (R146, R155, R162) -/

/-- What a voice draws in its first `n` frames: one noise value a frame while its transient runs, so that position and
frame number agree, and nothing once it is frozen or ended. -/
def runDraws : (n : Nat) → Voice → Entropy → List F32
  | 0, _, _ => []
  | n + 1, v, e =>
    (if pluckRuns v = true then [e.noiseValue] else []) ++
      if (frameVoice v e).active = true then runDraws n (frameVoice v e) (pluckEntropy v e) else []

/-- What voice `i` draws in `RENDER n`: the voices below it have drawn before it (R156, R161). -/
def blockDraws (s : State) (n : Nat) (i : Slot) : List F32 :=
  if (s.voice i).active = true then
    runDraws n (s.voice i)
      ((slots.take i.val).foldl (mixVoice n) ⟨List.replicate n fzero, s.voices, s.entropy⟩).entropy
  else []

end Sys2Proof.Machine

namespace Sys2Proof.Pseudocode

open Sys2Proof.Machine

/-! ### The pseudocode of R136, R146 and R155, one assignment at a time -/

/-- `V[i].f <- v`, the field being written by `f`. -/
def writeField (s : State) (i : Slot) (f : Voice → Voice) : State := s.setVoice i (f (s.voice i))

/-- `OUT[k] <- v`. -/
def writeOut (s : State) (k : Nat) (v : F32) : State := { s with out := s.out.set k v }

/-- `PluckStep(i)` (R146): the value returned and the state after. -/
def pluckStep (i : Slot) (s : State) : F32 × State :=
  if fgt (s.voice i).pluckEnvelope cThrLo = true then
    let n := s.entropy.noiseValue
    let s := { s with entropy := s.entropy.afterNoise }
    let s := writeField s i fun v =>
      { v with pluckFilterState := fadd v.pluckFilterState (fmul cAlpha (fsub n v.pluckFilterState)) }
    let p := fmul (s.voice i).pluckFilterState (s.voice i).pluckEnvelope
    let s := writeField s i fun v => { v with pluckEnvelope := fmul v.pluckEnvelope v.pluckDecayCoeff }
    (p, s)
  else (fzero, s)

/-- `EnvStep(i)` (R136). -/
def envStep (i : Slot) (s : State) : State :=
  match (s.voice i).envelopeState with
  | .attack =>
    let s := writeField s i fun v =>
      { v with envelope := fadd v.envelope (fmul (fsub cOne v.envelope) v.attackCoeff) }
    if fgt (s.voice i).envelope cThrHi = true then writeField s i fun v => { v with envelopeState := .decay } else s
  | .decay =>
    let s := writeField s i fun v => { v with envelope := fmul v.envelope v.decayCoeff }
    if flt (s.voice i).envelope cThrLo = true then
      let s := writeField s i fun v => { v with envelope := fzero }
      writeField s i fun v => { v with active := false }
    else s

/-- The body of the frame loop of `RENDER` for voice `i` and frame `k` (R155), up to its last line. -/
def frame (i : Slot) (k : Nat) (s : State) : State :=
  let (p, s) := pluckStep i s
  let t := fadd (sineAt (s.voice i).phase) (fmul cSawW (sawAt (s.voice i).phase2))
  let c := fmul (fadd (fmul t (s.voice i).envelope) (fmul p cPluckW)) cMaster
  let s := writeOut s k (fadd (s.outEntry k) c)
  let s := writeField s i fun v => { v with phase := v.phase + v.phaseInc }
  let s := writeField s i fun v => { v with phase2 := v.phase2 + v.phase2Inc }
  envStep i s

/-- `for k in k..n-1` of voice `i`, `left` frames being left, with its `break` (R155, R157). -/
def frames (i : Slot) : (left k : Nat) → State → State
  | 0, _, s => s
  | left + 1, k, s =>
    let s := frame i k s
    if (s.voice i).active = false then s else frames i left (k + 1) s

/-- `RENDER(n)` (R155), `w` being the command word. -/
def render (n : Nat) (w : Word) (s : State) : State :=
  if n > s.params.blockMax then { s with status := 0x00000021#32, faultcmd := w }
  else
    let s := (List.range n).foldl (fun s k => writeOut s k fzero) s
    let s := (List.finRange 14).foldl (fun s i => if (s.voice i).active = true then frames i n 0 s else s) s
    let s := (List.range n).foldl (fun s k => writeOut s k (softclip (s.outEntry k))) s
    { s with outlen := BitVec.ofNat 32 n }

end Sys2Proof.Pseudocode

section Slice0

open Sys2Proof Sys2Proof.Machine

/-! ### Encoding and decoding -/

/-- R71 to R76: no bit of an operand is lost between a command and its word, and a word that decodes is the word of the
command it decodes to, so a command has exactly one word. -/
def Obligations.DecodeAndEncodeAgree : Prop :=
  (∀ i : Instr, i.WellFormed → decode (encode i) = .ok i) ∧
  (∀ (w : Word) (i : Instr), decode w = .ok i → i.WellFormed ∧ encode i = w)

/-- R75, R76: the five rows by match and mask, the operands from the word, and nothing else decodes. -/
def Obligations.DecodeFollowsOpcodeMap : Prop :=
  ∀ w : Word,
    (∀ p v, decode w = .ok (.noteon p v) ↔
      w &&& 0xFFFF0000#32 = 0x01000000#32 ∧ p = (w.extractLsb' 8 8).toNat ∧ v = (w.extractLsb' 0 8).toNat) ∧
    (∀ n, decode w = .ok (.render n) ↔ w &&& 0xFFFF0000#32 = 0x02000000#32 ∧ n = (w.extractLsb' 0 16).toNat) ∧
    (decode w = .ok .sineat ↔ w &&& 0xFFFFFFFF#32 = 0x03000000#32) ∧
    (decode w = .ok .sawat ↔ w &&& 0xFFFFFFFF#32 = 0x04000000#32) ∧
    (decode w = .ok .phinc ↔ w &&& 0xFFFFFFFF#32 = 0x05000000#32)

/-- R77: which words are no command, what executing one does, and that no command is a no-operation. -/
def Obligations.IllegalWordRaisesIllcmd : Prop :=
  (∀ w : Word, (∃ e, decode w = .error e) ↔
    w.extractLsb' 24 8 = 0x00#8 ∨ 0x06 ≤ (w.extractLsb' 24 8).toNat ∨
    ((w.extractLsb' 24 8 = 0x01#8 ∨ w.extractLsb' 24 8 = 0x02#8) ∧ w.extractLsb' 16 8 ≠ 0#8) ∨
    ((w.extractLsb' 24 8 = 0x03#8 ∨ w.extractLsb' 24 8 = 0x04#8 ∨ w.extractLsb' 24 8 = 0x05#8) ∧
      w.extractLsb' 0 24 ≠ 0#24)) ∧
  (∀ (s : State) (w : Word) (e : DecodeError), s.faulted = false → decode w = .error e →
    execute w s = .next { s with status := 0x00000011#32, faultcmd := w }) ∧
  (∃ e, decode 0x00000000#32 = .error e) ∧ (∃ e, decode 0xFFFFFFFF#32 = .error e) ∧
  (∀ (w : Word) (i : Instr), decode w = .ok i → ∃ s t, s.faulted = false ∧ exec i s = .next t ∧ t ≠ s)

/-- Words written out from the pattern strings of R72 to R74, one per row at least, and what they decode to. -/
def Obligations.SpecWordsDecode : Prop :=
  decode 0b00000001_00000000_01000101_01100100#32 = .ok (.noteon 69 100) ∧
  decode 0b00000001_00000000_11111111_00000000#32 = .ok (.noteon 255 0) ∧
  decode 0b00000010_00000000_00000000_10000000#32 = .ok (.render 128) ∧
  decode 0b00000011_00000000_00000000_00000000#32 = .ok .sineat ∧
  decode 0b00000100_00000000_00000000_00000000#32 = .ok .sawat ∧
  decode 0b00000101_00000000_00000000_00000000#32 = .ok .phinc

/-! ### Steps and the host's accesses -/

/-- R82, R31: a step whose move is a write of a command's word to `CMD`, the engine not being faulted, is that command,
run on the state in which the move is taken and answered. -/
def Obligations.StepRunsDecodedCommand : Prop :=
  ∀ (s : State) (w : Word) (rest : List HostMove) (i : Instr),
    s.faulted = false → s.moves = commandMove w :: rest → decode w = .ok i →
    step s = exec i { s with moves := rest, responses := .written :: s.responses }

/-- R212, R196: every step answers a next state and takes exactly the move that is next; with no move of the host the
engine is idle, and idleness changes nothing. -/
def Obligations.EveryStepAnswers : Prop :=
  ∀ s : State, (∃ t, step s = .next t ∧ t.moves = s.moves.tail) ∧ (s.moves = [] → step s = .next s)

/-- R52: a read returns the word at the address or the error response, and changes no state. -/
def Obligations.ReadsChangeNothing : Prop :=
  ∀ (s : State) (bytes : Nat) (a : Addr) (rest : List HostMove), s.moves = .read bytes a :: rest →
    ∃ r, step s = .next { s with moves := rest, responses := r :: s.responses } ∧
      (∀ w, bytes = 4 → s.readWord a = some w → r = .data w) ∧
      (bytes ≠ 4 ∨ a.toNat % 4 ≠ 0 ∨ s.readWord a = none → r = .error)

/-- R53: the two writable addresses, and the error response of every other write. -/
def Obligations.WritesHaveTwoTargets : Prop :=
  ∀ (s : State) (bytes : Nat) (a : Addr) (v : Word) (rest : List HostMove), s.moves = .write bytes a v :: rest →
    (bytes = 4 → a = 0x0004#16 →
      step s = .next { s with moves := rest, responses := .written :: s.responses, arg0 := v }) ∧
    (bytes = 4 → a = 0x0000#16 →
      step s = execute v { s with moves := rest, responses := .written :: s.responses }) ∧
    (bytes ≠ 4 ∨ (a ≠ 0x0000#16 ∧ a ≠ 0x0004#16) →
      step s = .next { s with moves := rest, responses := .error :: s.responses })

/-- R65, R185: an access that is misaligned, of another width, to an address the map does not have, or a write to a
read-only address ends in the error response and changes nothing else, in the faulted state too. -/
def Obligations.BusErrorsChangeNothing : Prop :=
  ∀ (s : State) (bytes : Nat) (a : Addr) (v : Word) (rest : List HostMove),
    (s.moves = .read bytes a :: rest → bytes ≠ 4 ∨ a.toNat % 4 ≠ 0 ∨ s.readWord a = none →
      step s = .next { s with moves := rest, responses := .error :: s.responses }) ∧
    (s.moves = .write bytes a v :: rest → bytes ≠ 4 ∨ a.toNat % 4 ≠ 0 ∨ (a ≠ 0x0000#16 ∧ a ≠ 0x0004#16) →
      step s = .next { s with moves := rest, responses := .error :: s.responses })

/-- R57, R67: what every address of the host window reads as, or that it is a bus error; the frame word of the PCM
window has the same sample left and right. -/
def Obligations.HostWindowMap : Prop :=
  ∀ s : State, s.params.Legal →
    s.readWord 0x0000#16 = some 0x00000000#32 ∧
    s.readWord 0x0004#16 = some s.arg0 ∧
    s.readWord 0x0008#16 = some s.result ∧
    s.readWord 0x000C#16 = some (s.status &&& 0x000000F1#32) ∧
    s.readWord 0x0010#16 = some s.outlen ∧
    s.readWord 0x0014#16 = some s.agectr ∧
    s.readWord 0x0018#16 = some (BitVec.ofNat 32 (s.params.blockMax * 2 ^ 16 + 14)) ∧
    s.readWord 0x001C#16 = some 0x0000AC44#32 ∧
    s.readWord 0x0020#16 = some 0x3E20ECFB#32 ∧
    s.readWord 0x0024#16 = some s.faultcmd ∧
    (∀ p < 256, s.readWord (BitVec.ofNat 16 (0x1000 + 4 * p)) = some (freqEntry p)) ∧
    (∀ p < 256, s.readWord (BitVec.ofNat 16 (0x1400 + 4 * p)) = some (log2pEntry p)) ∧
    (∀ i < 14, s.readWord (BitVec.ofNat 16 (0x1800 + 4 * i)) = some (detuneEntry i)) ∧
    (∀ i < 2048, s.readWord (BitVec.ofNat 16 (0x2000 + 4 * i)) = some (sineEntry i)) ∧
    (∀ k < s.params.blockMax, s.readWord (BitVec.ofNat 16 (0x4000 + 4 * k)) = some (s.outEntry k)) ∧
    (∀ k < s.params.blockMax, ∃ w, s.readWord (BitVec.ofNat 16 (0x8000 + 4 * k)) = some w ∧
      w.extractLsb' 0 16 = pcmPattern (s.outEntry k) ∧ w.extractLsb' 16 16 = pcmPattern (s.outEntry k)) ∧
    (∀ a : Addr, a.toNat % 4 ≠ 0 → s.readWord a = none) ∧
    (∀ a : Addr, (0x0028 ≤ a.toNat ∧ a.toNat < 0x0100) ∨ (0x0480 ≤ a.toNat ∧ a.toNat < 0x1000) ∨
        (0x1838 ≤ a.toNat ∧ a.toNat < 0x2000) ∨
        (0x4000 + 4 * s.params.blockMax ≤ a.toNat ∧ a.toNat < 0x8000) ∨
        0x8000 + 4 * s.params.blockMax ≤ a.toNat → s.readWord a = none)

/-- R66: the 16 words of voice `i`, all of them read-only. -/
def Obligations.VoiceWindowLayout : Prop :=
  ∀ (s : State) (i : Slot),
    let at_ (o : Nat) := s.readWord (BitVec.ofNat 16 (0x0100 + 0x40 * i.val + o))
    (∃ f, at_ 0x00 = some f ∧ f.getLsbD 0 = (s.voice i).active ∧
      (f.getLsbD 1 = true ↔ (s.voice i).envelopeState = .decay) ∧ ∀ k, 2 ≤ k → f.getLsbD k = false) ∧
    at_ 0x04 = some (s.voice i).phase ∧
    at_ 0x08 = some (s.voice i).phaseInc ∧
    at_ 0x0C = some (s.voice i).phase2 ∧
    at_ 0x10 = some (s.voice i).phase2Inc ∧
    at_ 0x14 = some (s.voice i).envelope ∧
    at_ 0x18 = some (s.voice i).attackCoeff ∧
    at_ 0x1C = some (s.voice i).decayCoeff ∧
    at_ 0x20 = some (s.voice i).pluckEnvelope ∧
    at_ 0x24 = some (s.voice i).pluckDecayCoeff ∧
    at_ 0x28 = some (s.voice i).pluckFilterState ∧
    at_ 0x2C = some (s.voice i).age ∧
    at_ 0x30 = some (s.voice i).detuneRatio ∧
    at_ 0x34 = some 0#32 ∧ at_ 0x38 = some 0#32 ∧ at_ 0x3C = some 0#32 ∧
    (∀ o v, o < 0x40 →
      busWrite 4 (BitVec.ofNat 16 (0x0100 + 0x40 * i.val + o)) v s = .next { s with responses := .error :: s.responses })

/-- R54: the byte at `a + k` of an aligned word is bits `8k+7 : 8k` of it, and there is none where there is no word. -/
def Obligations.BytesAreLittleEndian : Prop :=
  ∀ (s : State) (a : Addr) (k : Nat), a.toNat % 4 = 0 → k < 4 →
    s.readByteView (a + BitVec.ofNat 16 k) = (s.readWord a).map (fun w => w.extractLsb' (8 * k) 8)

/-- R195: the window shows all architectural state. Two engines of the same parameters that read alike everywhere
are the same engine. -/
def Obligations.WindowShowsWholeEngine : Prop :=
  ∀ s t : State, s.params.Legal → t.params = s.params →
    s.BufferSound → t.BufferSound → s.FaultRecordSound → t.FaultRecordSound →
    (∀ a : Addr, t.readWord a = s.readWord a) → s.SameEngine t

/-- R30, R125, R192, R208, R210: who writes the registers and the buffer. `ARG0`: the host alone. `RESULT`: the commands
that have one. `AGECTR`: allocating `NOTEON`s, by 1. `OUTLEN` and `OUT`: `RENDER`. Reset sets all of them to 0. -/
def Obligations.RegisterWriters : Prop :=
  ∀ s t : State, step s = .next t →
    (s.moves.head? = some .reset ∧ t.arg0 = 0#32 ∧ t.result = 0#32 ∧ t.agectr = 0#32 ∧ t.outlen = 0#32 ∧
      t.out = List.replicate s.params.blockMax 0#32) ∨
    ((t.arg0 = s.arg0 ∨ s.moves.head? = some (.write 4 0x0004#16 t.arg0)) ∧
     (t.result = s.result ∨ ∃ w i, s.moves.head? = some (commandMove w) ∧ s.faulted = false ∧ decode w = .ok i ∧
        ∀ n, i ≠ .render n) ∧
     (t.agectr = s.agectr ∨ (t.agectr.toNat = s.agectr.toNat + 1 ∧
        ∃ w p v, s.moves.head? = some (commandMove w) ∧ s.faulted = false ∧ decode w = .ok (.noteon p v) ∧ v ≠ 0)) ∧
     ((t.outlen = s.outlen ∧ t.out = s.out) ∨ ∃ w n, s.moves.head? = some (commandMove w) ∧ s.faulted = false ∧
        decode w = .ok (.render n) ∧ n ≤ s.params.blockMax ∧ t.outlen = BitVec.ofNat 32 n))

/-! ### Reset -/

/-- R40: the values after reset, the reference engine having `BLOCK_MAX = 128` (R9). -/
def Obligations.ResetValues : Prop :=
  (∀ i : Slot, (State.reset.voice i).active = false ∧ (State.reset.voice i).envelopeState = .attack ∧
    (State.reset.voice i).phase = 0#32 ∧ (State.reset.voice i).phaseInc = 0#32 ∧
    (State.reset.voice i).phase2 = 0#32 ∧ (State.reset.voice i).phase2Inc = 0#32 ∧
    (State.reset.voice i).envelope = 0#32 ∧ (State.reset.voice i).attackCoeff = 0#32 ∧
    (State.reset.voice i).decayCoeff = 0#32 ∧ (State.reset.voice i).pluckEnvelope = 0#32 ∧
    (State.reset.voice i).pluckDecayCoeff = 0#32 ∧ (State.reset.voice i).pluckFilterState = 0#32 ∧
    (State.reset.voice i).age = 0#32 ∧ (State.reset.voice i).detuneRatio = 0#32) ∧
  State.reset.agectr = 0#32 ∧ State.reset.arg0 = 0#32 ∧ State.reset.result = 0#32 ∧ State.reset.status = 0#32 ∧
  State.reset.faultcmd = 0#32 ∧ State.reset.outlen = 0#32 ∧
  State.reset.out.length = 128 ∧ (∀ k, State.reset.outEntry k = 0#32) ∧
  State.reset.config = 0x0080000E#32

/-- R200: the reset input brings every engine to its reset state in one step, faulted or not, and keeps what it is
built with. -/
def Obligations.ResetInputClearsEngine : Prop :=
  ∀ (s : State) (rest : List HostMove), s.moves = .reset :: rest →
    ∃ t, step s = .next t ∧ t.moves = rest ∧ t.params = s.params ∧ t.faulted = false ∧
      (∀ i : Slot, t.voice i = Voice.zero) ∧
      t.agectr = 0#32 ∧ t.arg0 = 0#32 ∧ t.result = 0#32 ∧ t.status = 0#32 ∧ t.faultcmd = 0#32 ∧ t.outlen = 0#32 ∧
      t.out = List.replicate s.params.blockMax 0#32

/-- R39, R40, R42: the invariants hold after reset, for every legal parameter record. -/
def Obligations.ResetIsSound : Prop :=
  State.reset.params.Legal ∧ ∀ p : Params, p.Legal → (State.resetWith p).Sound

/-! ### Faults -/

/-- R183, R188: the state after a fault is the state before the command with `STATUS` and `FAULTCMD` written; the bus
write that delivered the word completes. The three clauses are the three causes of R181. -/
def Obligations.FaultsArePrecise : Prop :=
  ∀ (s : State) (w : Word) (rest : List HostMove), s.faulted = false → s.moves = commandMove w :: rest →
    (∀ e, decode w = .error e →
      step s = .next { s with moves := rest, responses := .written :: s.responses,
                              status := 0x00000011#32, faultcmd := w }) ∧
    (∀ n, decode w = .ok (.render n) → s.params.blockMax < n →
      step s = .next { s with moves := rest, responses := .written :: s.responses,
                              status := 0x00000021#32, faultcmd := w }) ∧
    (∀ p v, decode w = .ok (.noteon p v) → v ≠ 0 → s.agectr = 0xFFFFFFFF#32 →
      step s = .next { s with moves := rest, responses := .written :: s.responses,
                              status := 0x00000031#32, faultcmd := w })

/-- R181, R187: a command word faults an engine without a fault exactly in the three cases, and no other step does. -/
def Obligations.FaultsHaveThreeCauses : Prop :=
  ∀ s t : State, s.status = 0#32 → step s = .next t →
    (t.faulted = true ↔ ∃ w, s.moves.head? = some (commandMove w) ∧
      ((∃ e, decode w = .error e) ∨ (∃ n, decode w = .ok (.render n) ∧ s.params.blockMax < n) ∨
       (∃ p v, decode w = .ok (.noteon p v) ∧ v ≠ 0 ∧ s.agectr = 0xFFFFFFFF#32))) ∧
    (t.faulted = false → t.status = 0#32) ∧
    (t.cause = 0#4 ∨ t.cause = 1#4 ∨ t.cause = 2#4 ∨ t.cause = 3#4)

/-- R184, R189: a faulted engine ignores every command word; reads go on, `ARG0` can be written and read back, and
nothing but reset changes anything else. -/
def Obligations.FaultedEngineIgnoresCommands : Prop :=
  ∀ (s : State), s.faulted = true →
    (∀ w rest, s.moves = commandMove w :: rest →
      step s = .next { s with moves := rest, responses := .written :: s.responses }) ∧
    (∀ a w rest, s.moves = .read 4 a :: rest → s.readWord a = some w →
      step s = .next { s with moves := rest, responses := .data w :: s.responses }) ∧
    (∀ v rest, s.moves = .write 4 0x0004#16 v :: rest →
      ∃ t, step s = .next t ∧ t.faulted = true ∧ t.readWord 0x0004#16 = some v) ∧
    (∀ t, s.moves.head? ≠ some .reset → step s = .next t →
      t.status = s.status ∧ t.faultcmd = s.faultcmd ∧ t.voices = s.voices ∧ t.out = s.out ∧ t.outlen = s.outlen ∧
      t.agectr = s.agectr ∧ t.result = s.result ∧ t.params = s.params ∧ t.entropy = s.entropy)

/-- R42, R182, R187: `STATUS` and `FAULTCMD` are both 0, or the cause in `STATUS` is one that the word in `FAULTCMD` raises
on this engine; every step keeps this. (That a record is never overwritten is FaultedEngineIgnoresCommands.) -/
def Obligations.FaultRecordSoundKept : Prop :=
  ∀ s t : State, s.FaultRecordSound → step s = .next t → t.FaultRecordSound

/-! ### NOTEON -/

/-- R112, R124, R125, R126: an allocation writes all 14 fields of the selected voice, the same whatever the voice was
before, hands out the age, answers the slot, takes one jitter draw, and leaves everything else. -/
def Obligations.NoteonAllocatesVoice : Prop :=
  ∀ (s : State) (p v : Nat), p < 256 → v < 256 → v ≠ 0 → s.agectr ≠ 0xFFFFFFFF#32 →
    ∃ t, exec (.noteon p v) s = .next t ∧
      (let i := select s.voices
       let d := detuneEntry i.val
       let f1 := fmul (freqEntry p) d
       let inh := fadd (fadd cInhBase (fmul cTwo (log2pEntry p))) s.entropy.jitterValue
       let f2 := fmul (fmul cTwo f1) (s.params.cents2ratio inh)
       (t.voice i).active = true ∧
       (t.voice i).phase = 0x00000000#32 ∧
       (∀ o, (t.voice i).phaseInc = phaseIncrementFor o f1) ∧
       (t.voice i).phase2 = 0x00000000#32 ∧
       (isNaN f2 = false → ∀ o, (t.voice i).phase2Inc = phaseIncrementFor o f2) ∧
       (t.voice i).envelope = 0x38D1B717#32 ∧
       (t.voice i).envelopeState = .attack ∧
       (t.voice i).attackCoeff = 0x3CA3D70A#32 ∧
       (t.voice i).decayCoeff = 0x3F7FFE24#32 ∧
       (t.voice i).pluckEnvelope = 0x3F800000#32 ∧
       (t.voice i).pluckDecayCoeff = 0x3F7BE311#32 ∧
       (t.voice i).pluckFilterState = 0x00000000#32 ∧
       (t.voice i).age = s.agectr ∧
       (t.voice i).detuneRatio = d ∧
       t.result = BitVec.ofNat 32 i.val ∧
       t.agectr.toNat = s.agectr.toNat + 1 ∧
       t.entropy = s.entropy.afterJitter ∧
       (∀ j, j ≠ i → t.voice j = s.voice j) ∧
       t.out = s.out ∧ t.outlen = s.outlen ∧ t.arg0 = s.arg0 ∧ t.status = s.status ∧ t.faultcmd = s.faultcmd ∧
       t.params = s.params ∧ t.moves = s.moves ∧ t.responses = s.responses)

/-- R100, R122, R123: whatever `cents2ratio` the engine has within the law of R122 and whatever jitter is drawn, the
secondary frequency of an encodable pitch is no NaN, so `phase2Inc` is fixed by the rules. -/
def Obligations.SecondaryFrequencyIsNumber : Prop :=
  ∀ (params : Params) (p : Nat) (i : Slot) (e : Entropy), p < 256 →
    isNaN (secondaryFrequency params p i e.jitterValue) = false

/-- The frame of `NOTEON` through the host window (R112, R208): the words of `RESULT`, `AGECTR`, `STATUS`, `FAULTCMD` and
the selected voice apart, every address reads as before. -/
def Obligations.NoteonWindowFrame : Prop :=
  ∀ (s t : State) (p v : Nat) (a : Addr), exec (.noteon p v) s = .next t →
    let i := select s.voices
    let voiceBase := 0x0100 + 0x40 * i.val
    (a ≠ 0x0008#16 → a ≠ 0x000C#16 → a ≠ 0x0014#16 → a ≠ 0x0024#16 →
      ¬ (voiceBase ≤ a.toNat ∧ a.toNat < voiceBase + 0x40) → t.readWord a = s.readWord a) ∧
    (v = 0 → a ≠ 0x0008#16 → t.readWord a = s.readWord a) ∧
    (v ≠ 0 → s.agectr = 0xFFFFFFFF#32 → a ≠ 0x000C#16 → a ≠ 0x0024#16 → t.readWord a = s.readWord a) ∧
    (v ≠ 0 → s.agectr ≠ 0xFFFFFFFF#32 → a = 0x000C#16 ∨ a = 0x0024#16 → t.readWord a = s.readWord a)

/-- R114: the lowest-index inactive voice is selected, whatever its other fields hold. -/
def Obligations.SelectLowestInactive : Prop :=
  ∀ (vs : VoiceFile) (i : Slot), (voiceAt vs i).active = false → (∀ j, j < i → (voiceAt vs j).active = true) →
    select vs = i

/-- R115: with all voices active the selected one is the unique minimum of the pair of envelope and age. -/
def Obligations.SelectQuietestThenOldest : Prop :=
  ∀ s : State, s.VoicesSound → s.AgesSound → (∀ i : Slot, (s.voice i).active = true) →
    ∀ j : Slot, j ≠ select s.voices →
      flt (s.voice (select s.voices)).envelope (s.voice j).envelope = true ∨
      (feq (s.voice (select s.voices)).envelope (s.voice j).envelope = true ∧
        (s.voice (select s.voices)).age.toNat < (s.voice j).age.toNat)

/-- R37 (b), R114: the pool fills in slot order. With exactly the first `k` voices active an allocation answers `k` and
leaves exactly the first `k + 1` active. -/
def Obligations.IdlePoolFillsInOrder : Prop :=
  ∀ (s : State) (k p v : Nat), k < 14 → v ≠ 0 → s.agectr ≠ 0xFFFFFFFF#32 →
    (∀ i : Slot, (s.voice i).active = true ↔ i.val < k) →
    ∃ t, exec (.noteon p v) s = .next t ∧ t.result = BitVec.ofNat 32 k ∧
      (∀ i : Slot, (t.voice i).active = true ↔ i.val < k + 1)

/-- R112, R128, R187: velocity is tested against 0 and nothing else. Velocity 0 allocates nothing, also when the age
counter is at its end; any two other velocities do the same, but for the word a fault records. -/
def Obligations.VelocityIsTestedForZeroOnly : Prop :=
  (∀ (s : State) (p : Nat), exec (.noteon p 0) s = .next { s with result := 0xFFFFFFFF#32 }) ∧
  (∀ (s : State) (p v w : Nat), v ≠ 0 → w ≠ 0 →
    ∃ t, exec (.noteon p v) s = .next t ∧
      ((s.agectr ≠ 0xFFFFFFFF#32 ∧ exec (.noteon p w) s = .next t) ∨
       (s.agectr = 0xFFFFFFFF#32 ∧ exec (.noteon p w) s = .next { t with faultcmd := encode (.noteon p w) })))

/-- R127: from pitch 149 on every slot's `phaseInc` saturates and below it none does; from pitch 137 on every slot's
`phase2Inc` does, with the jitter draw `+0.0` on the reference engine. -/
def Obligations.HighPitchSaturates : Prop :=
  (∀ p < 256, ∀ i : Slot,
    (phaseIncrementFor 0#32 (primaryFrequency p i) = 0xFFFFFFFF#32 ↔ 149 ≤ p)) ∧
  (∀ p < 256, ∀ i : Slot, 137 ≤ p →
    phaseIncrementFor 0#32 (secondaryFrequency Params.reference p i fzero) = 0xFFFFFFFF#32)

/-- R91, R117, R175 to R178: what the spec says of its tables. An octave doubles a frequency exactly; pitch 69 is
440 Hz; frequencies and logarithms rise with the pitch and detune ratios with the slot, none being 1; the sine table
has the symmetries of its full cycle. Values are compared in units of `2^-149`. -/
def Obligations.ConstantTables : Prop :=
  (∀ p < 244, sval (freqEntry (p + 12)) = 2 * sval (freqEntry p)) ∧
  (∀ p < 255, sval (freqEntry p) < sval (freqEntry (p + 1)) ∧ sval (log2pEntry p) < sval (log2pEntry (p + 1))) ∧
  freqEntry 69 = 0x43DC0000#32 ∧ log2pEntry 69 = 0x00000000#32 ∧ log2pEntry 81 = 0x3F800000#32 ∧
  log2pEntry 57 = 0xBF800000#32 ∧
  (∀ i < 13, sval (detuneEntry i) < sval (detuneEntry (i + 1))) ∧ (∀ i < 14, detuneEntry i ≠ cOne) ∧
  (∀ i < 1024, sval (sineEntry (i + 1024)) = -sval (sineEntry i)) ∧
  (∀ i < 1025, sval (sineEntry (1024 - i)) = sval (sineEntry i)) ∧
  (∀ i < 512, sval (sineEntry i) < sval (sineEntry (i + 1))) ∧
  sineEntry 512 = cOne ∧ sineEntry 1536 = fneg cOne

/-- R122: the law of `cents2ratio` for the reference instance, over the reals. -/
def Obligations.CentsRatioLaw : Prop :=
  ∀ x : F32, isNaN x = false → -11 ≤ fval x → fval x ≤ 33 →
    isFinite (cents2ratioReference x) = true ∧
    |(fval (cents2ratioReference x) : ℝ) - centsPower x| ≤ 2 ^ (-24 : ℤ) * centsPower x

/-- R121, R146, R193: whatever the entropy source holds, a jitter draw is in `[-C_JIT, C_JIT]` and a noise draw in
`[-1, 1]`, and neither is a NaN. -/
def Obligations.DrawsStayInRange : Prop :=
  ∀ e : Entropy,
    isNaN e.jitterValue = false ∧ fle (fabs e.jitterValue) cJit = true ∧
    isNaN e.noiseValue = false ∧ fle (fabs e.noiseValue) cOne = true

/-! ### The query commands -/

/-- R93: `SINEAT`. -/
def Obligations.SineatCommand : Prop :=
  encode .sineat = 0x03000000#32 ∧
  (∀ s : State, exec .sineat s = .next { s with result := sineAt s.arg0 }) ∧
  sineAt 0x001FFFFF#32 = sineEntry 0 ∧ sineAt 0xFFFFFFFF#32 = sineEntry 2047 ∧ sineAt 0x80000000#32 = 0x00000000#32 ∧
  sineAt 0x20000000#32 = 0x3F3504F3#32

/-- R95: `SAWAT`. -/
def Obligations.SawatCommand : Prop :=
  encode .sawat = 0x04000000#32 ∧
  (∀ s : State, exec .sawat s = .next { s with result := sawAt s.arg0 }) ∧
  (∀ phase, sawAt phase ≠ 0x80000000#32) ∧ (∀ phase : Word, phase.toNat ≤ 0x40 → sawAt phase = 0xBF800000#32) ∧
  sawAt 0xFFFFFFFF#32 = 0x3F800000#32 ∧ sawAt 0x12345678#32 = 0xBF5B9753#32

/-- R97: `PHINC` completes for every operand. For a number `RESULT` is its phase increment and nothing else changes. For
a NaN `RESULT` is unspecified and there is no fault; beside it only the count of free values taken moves, which is the
model's own (log entry 5), so that no draw is taken. -/
def Obligations.PhincCommand : Prop :=
  encode .phinc = 0x05000000#32 ∧
  (∀ s : State, isNaN s.arg0 = false → ∀ o, exec .phinc s = .next { s with result := phaseIncrementFor o s.arg0 }) ∧
  (∀ s : State, isNaN s.arg0 = true →
    ∃ r, exec .phinc s = .next { s with result := r, entropy := s.entropy.afterPhinc s.arg0 }) ∧
  (∀ (e : Entropy) (f : F32), isNaN f = true → e.afterPhinc f = { e with unspecified := e.unspecified + 1 }) ∧
  (∀ o, phaseIncrementFor o 0x80000000#32 = 0#32 ∧ phaseIncrementFor o 0x46AC4400#32 = 0x80000000#32 ∧
    phaseIncrementFor o 0x472C4400#32 = 0xFFFFFFFF#32 ∧ phaseIncrementFor o 0x43DC0000#32 = 0x028DDFB9#32) ∧
  (∀ o f, expField f = 0 → phaseIncrementFor o f = 0#32)

/-- The frame of the three queries through the host window (R93, R95, R97): `RESULT` apart, every word and byte of it
reads as before. -/
def Obligations.QueryWindowFrame : Prop :=
  ∀ (i : Instr) (s t : State), i = .sineat ∨ i = .sawat ∨ i = .phinc → exec i s = .next t →
    (∀ a : Addr, a ≠ 0x0008#16 → t.readWord a = s.readWord a) ∧
    (∀ a : Addr, ¬ (0x0008 ≤ a.toNat ∧ a.toNat < 0x000C) → t.readByteView a = s.readByteView a) ∧
    t.params = s.params ∧ t.moves = s.moves ∧ t.responses = s.responses

/-- R92: the table entry of the top 11 bits, the low 21 bits ignored, in `[-1, 1]`, never a NaN. -/
def Obligations.SineLookup : Prop :=
  ∀ phase : Word,
    sineAt phase = sineEntry (phase.toNat / 2 ^ 21) ∧
    (∀ phase' : Word, phase'.extractLsb' 21 11 = phase.extractLsb' 21 11 → sineAt phase' = sineAt phase) ∧
    isNaN (sineAt phase) = false ∧ -1 ≤ fval (sineAt phase) ∧ fval (sineAt phase) ≤ 1

/-- R94: the ramp rounded once, its range, its ends, and that it does not decrease. -/
def Obligations.SawRamp : Prop :=
  (∀ phase : Word, IsRN ((phase.toNat : ℚ) / 2 ^ 31 - 1) (sawAt phase) ∧
    -1 ≤ fval (sawAt phase) ∧ fval (sawAt phase) ≤ 1) ∧
  (∀ phase phase' : Word, phase.toNat ≤ phase'.toNat → fval (sawAt phase) ≤ fval (sawAt phase')) ∧
  sawAt 0x00000000#32 = 0xBF800000#32 ∧ sawAt 0x80000000#32 = 0x00000000#32 ∧
  (∀ phase : Word, 0xFFFFFFC0 ≤ phase.toNat → sawAt phase = 0x3F800000#32)

/-- R96: the increment as the exact rational number rounded once and held to 32 bits; for a NaN it is whatever the free
value `o` is. -/
def Obligations.PhaseIncrementExact : Prop :=
  (∀ o f, isNaN f = true → phaseIncrementFor o f = o) ∧
  (∀ o, phaseIncrementFor o 0x7F800000#32 = 0xFFFFFFFF#32 ∧ phaseIncrementFor o 0xFF800000#32 = 0#32) ∧
  (∀ o f, isFinite f = true → fval f ≤ 0 → phaseIncrementFor o f = 0#32) ∧
  (∀ o f, isFinite f = true → 0 < fval f →
    ((phaseIncrementFor o f).toNat : ℤ) = min ⌊fval f * 2 ^ 32 / 44100 + 1 / 2⌋ (2 ^ 32 - 1)) ∧
  (∀ o f g, fle f g = true → (phaseIncrementFor o f).toNat ≤ (phaseIncrementFor o g).toNat) ∧
  (∀ o f, isFinite f = true → 44100 ≤ fval f → phaseIncrementFor o f = 0xFFFFFFFF#32) ∧
  (∀ o, phaseIncrementFor o 0x472C43FF#32 = 0xFFFFFE84#32 ∧ phaseIncrementFor o 0x36AC4400#32 = 1#32) ∧
  (∀ o f, isFinite f = true → phaseIncrementFor o f ≠ 0#32 → fval 0x36AC4400#32 ≤ fval f)

/-! ### Arithmetic -/

/-- R11, R12: each of the four operations on finite operands is the exact result rounded once, with the signs of zero
of IEEE 754. -/
def Obligations.FloatOperationsRoundOnce : Prop :=
  ∀ a b : F32, isFinite a = true → isFinite b = true →
    IsRN (fval a + fval b) (fadd a b) ∧ IsRN (fval a - fval b) (fsub a b) ∧ IsRN (fval a * fval b) (fmul a b) ∧
    (fval b ≠ 0 → IsRN (fval a / fval b) (fdiv a b)) ∧
    (fval a + fval b = 0 → signBit (fadd a b) = (signBit a && signBit b)) ∧
    (fval a - fval b = 0 → signBit (fsub a b) = (signBit a && !signBit b)) ∧
    signBit (fmul a b) = (signBit a != signBit b) ∧ (fval b ≠ 0 → signBit (fdiv a b) = (signBit a != signBit b))

/-- R158: the soft clip of a finite sample is odd, keeps `+0.0`, never exceeds 1 in magnitude, and is below 1 for
`|x| < 2^24`. -/
def Obligations.SoftclipOddAndBounded : Prop :=
  (∀ x : F32, isFinite x = true → softclip (fneg x) = fneg (softclip x) ∧
    -1 ≤ fval (softclip x) ∧ fval (softclip x) ≤ 1 ∧ (|fval x| < 2 ^ 24 → |fval (softclip x)| < 1)) ∧
  softclip 0x00000000#32 = 0x00000000#32

/-- R158, its sentence on the bound: `1.0` exactly from `2^24` on. NOT TRUE of the rule's own formula, which gives
`0x3F7FFFFE` for `2^24 + 2`; see log entry 14. -/
def Obligations.SoftclipIsOneFromTwoTo24 : Prop :=
  ∀ x : F32, isFinite x = true → (2 ^ 24 ≤ |fval x| ↔ |fval (softclip x)| = 1)

/-- R158, its sentence on monotonicity in binary32, read as "never decreases". NOT TRUE of the rule's own formula,
which gives `0x3F0011E3` for `0x3F8023C9` and `0x3F0011E2` for the next value; see log entry 14. -/
def Obligations.SoftclipNeverDecreases : Prop :=
  ∀ x y : F32, isFinite x = true → isFinite y = true → fval x ≤ fval y → fval (softclip x) ≤ fval (softclip y)

/-- R165: the PCM conversion of every `y` that is no NaN. -/
def Obligations.PcmConversion : Prop :=
  ∀ y : F32, isNaN y = false →
    -12000 ≤ pcm16 y ∧ pcm16 y ≤ 12000 ∧ (pcmPattern y).toInt = pcm16 y ∧
    (isFinite y = true → -1 ≤ fval y → fval y ≤ 1 →
      |(pcm16 y : ℚ)| ≤ |fval (fmul y cPcm)| ∧ |fval (fmul y cPcm)| < |(pcm16 y : ℚ)| + 1 ∧
      0 ≤ (pcm16 y : ℚ) * fval (fmul y cPcm)) ∧
    (fgt y cOne = true → pcm16 y = 12000) ∧ (flt y (fneg cOne) = true → pcm16 y = -12000)

/-! ### RENDER -/

/-- R155 to R157, R161: `RENDER` is the pseudocode of R155, for every block length and every draw. -/
def Obligations.RenderMatchesPseudocode : Prop :=
  ∀ (s : State) (n : Nat), Memory.wf s.params.blockMax s.out →
    exec (.render n) s = .next (Pseudocode.render n (encode (.render n)) s)

/-- R155, its list of what is not written, with the completion of every legal block length. -/
def Obligations.RenderFrame : Prop :=
  ∀ (s : State) (n : Nat), n ≤ s.params.blockMax → Memory.wf s.params.blockMax s.out →
    ∃ t, exec (.render n) s = .next t ∧
      t.outlen = BitVec.ofNat 32 n ∧ t.result = s.result ∧ t.arg0 = s.arg0 ∧ t.agectr = s.agectr ∧
      t.status = s.status ∧ t.faultcmd = s.faultcmd ∧ t.params = s.params ∧
      t.moves = s.moves ∧ t.responses = s.responses ∧
      t.entropy.jitter = s.entropy.jitter ∧ t.entropy.jitterDraws = s.entropy.jitterDraws ∧
      (∀ k, n ≤ k → t.outEntry k = s.outEntry k) ∧
      (∀ i : Slot, (s.voice i).active = false → t.voice i = s.voice i) ∧
      (∀ i : Slot, (t.voice i).phaseInc = (s.voice i).phaseInc ∧ (t.voice i).phase2Inc = (s.voice i).phase2Inc ∧
        (t.voice i).attackCoeff = (s.voice i).attackCoeff ∧ (t.voice i).decayCoeff = (s.voice i).decayCoeff ∧
        (t.voice i).pluckDecayCoeff = (s.voice i).pluckDecayCoeff ∧ (t.voice i).age = (s.voice i).age ∧
        (t.voice i).detuneRatio = (s.voice i).detuneRatio)

/-- R163: every entry of the buffer from `n` on keeps its value, the block is the first `OUTLEN` entries, and a `RENDER`
that faults leaves the buffer and `OUTLEN`. -/
def Obligations.RenderKeepsTail : Prop :=
  ∀ (s : State) (n : Nat), n < 2 ^ 16 → Memory.wf s.params.blockMax s.out →
    ∃ t, exec (.render n) s = .next t ∧ (∀ k, n ≤ k → t.outEntry k = s.outEntry k) ∧
      (n ≤ s.params.blockMax → t.outlen.toNat = n) ∧
      (s.params.blockMax < n → t.out = s.out ∧ t.outlen = s.outlen)

/-- The frame of `RENDER` through the host window (R155): the stored entries of the two output windows, `OUTLEN` and the
words of voices that were active apart, every address reads as before, and the tuning words of those too. -/
def Obligations.RenderWindowFrame : Prop :=
  ∀ (s t : State) (n : Nat) (a : Addr), s.params.Legal → Memory.wf s.params.blockMax s.out →
    n ≤ s.params.blockMax → exec (.render n) s = .next t →
    a ≠ 0x0010#16 →
    ¬ (0x4000 ≤ a.toNat ∧ a.toNat < 0x4000 + 4 * n) → ¬ (0x8000 ≤ a.toNat ∧ a.toNat < 0x8000 + 4 * n) →
    (∀ (i : Slot) (o : Nat), (s.voice i).active = true → a.toNat = 0x0100 + 0x40 * i.val + o →
      o ≠ 0x00 ∧ o ≠ 0x04 ∧ o ≠ 0x0C ∧ o ≠ 0x14 ∧ o ≠ 0x20 ∧ o ≠ 0x28) →
    t.readWord a = s.readWord a

/-- R160: with no active voice a block of any legal length is all zeros, no voice changes and no noise is drawn. -/
def Obligations.RenderSilentPool : Prop :=
  ∀ (s : State) (n : Nat), n ≤ s.params.blockMax → Memory.wf s.params.blockMax s.out →
    (∀ i : Slot, (s.voice i).active = false) →
    ∃ t, exec (.render n) s = .next t ∧ (∀ k < n, t.outEntry k = 0x00000000#32) ∧ t.voices = s.voices ∧
      t.entropy = s.entropy ∧ t.outlen = BitVec.ofNat 32 n

/-- R22, R23, R90, R155, R157: what a block does to a voice that was active. It runs some number `k` of frames, each of
which advances both phases by their increments modulo `2^32`, each on its own, and each of which adds one sample. After
fewer than `k` frames the voice is still active. It runs all `n` where it is still active after the block; where it is
not, the `k`-th frame is the one that ended it, and left envelope `+0.0` and state Decay. -/
def Obligations.RenderAdvancesPhases : Prop :=
  ∀ (s t : State) (n : Nat) (i : Slot), n ≤ s.params.blockMax → exec (.render n) s = .next t →
    (s.voice i).active = true →
    ∃ k, k ≤ n ∧
      (t.voice i).phase.toNat = ((s.voice i).phase.toNat + k * (s.voice i).phaseInc.toNat) % 2 ^ 32 ∧
      (t.voice i).phase2.toNat = ((s.voice i).phase2.toNat + k * (s.voice i).phase2Inc.toNat) % 2 ^ 32 ∧
      (∀ e, (runVoice n (s.voice i) e).samples.length = k) ∧
      (∀ m u, m < k → exec (.render m) s = .next u → (u.voice i).active = true) ∧
      ((t.voice i).active = true → k = n) ∧
      ((t.voice i).active = false → 0 < k ∧ (t.voice i).envelope = fzero ∧ (t.voice i).envelopeState = .decay ∧
        ∀ u, exec (.render k) s = .next u → (u.voice i).active = false)

/-- R162: rendering `a` and then `b` frames leaves every voice as rendering `a + b` frames does, up to the filter state,
whatever is drawn; and wholly when the draws are the same per voice and frame, that is when for every voice its draws in
the long block are those in the first short block followed by those in the second. The three blocks may have entropy
sources of their own. With one source and at most one voice that draws, the draws are the same by themselves, and the
source ends the same too. -/
def Obligations.RenderSplits : Prop :=
  ∀ (s t : State) (a b : Nat), a + b ≤ s.params.blockMax → exec (.render (a + b)) s = .next t →
    (∀ (u v : State) (e₁ e₂ : Entropy), exec (.render a) { s with entropy := e₁ } = .next u →
      exec (.render b) { u with entropy := e₂ } = .next v →
      (∀ i : Slot, { v.voice i with pluckFilterState := (t.voice i).pluckFilterState } = t.voice i) ∧
      ((∀ i : Slot, blockDraws s (a + b) i =
          blockDraws { s with entropy := e₁ } a i ++ blockDraws { u with entropy := e₂ } b i) →
        v.voices = t.voices)) ∧
    (∀ u v : State, exec (.render a) s = .next u → exec (.render b) u = .next v →
      (∀ i j : Slot, (s.voice i).active = true → pluckRuns (s.voice i) = true →
        (s.voice j).active = true → pluckRuns (s.voice j) = true → i = j) →
      v.voices = t.voices ∧ v.entropy = t.entropy)

/-- R148: a frozen transient stays as it is through any block, and contributes exactly `+0.0`; the test against the
threshold is strict. -/
def Obligations.PluckFreezes : Prop :=
  (∀ (v : Voice) (e : Entropy), fgt v.pluckEnvelope 0x38D1B717#32 = false →
    pluckValue v e = 0x00000000#32 ∧ pluckVoice v e = v ∧ pluckEntropy v e = e) ∧
  (∀ (s t : State) (n : Nat) (i : Slot), n ≤ s.params.blockMax → exec (.render n) s = .next t →
    fgt (s.voice i).pluckEnvelope 0x38D1B717#32 = false →
    (t.voice i).pluckEnvelope = (s.voice i).pluckEnvelope ∧
    (t.voice i).pluckFilterState = (s.voice i).pluckFilterState) ∧
  (∀ v : Voice, (v.pluckEnvelope = 0x38D1B717#32 → pluckRuns v = false) ∧
    (v.pluckEnvelope = 0x38D1B718#32 → pluckRuns v = true))

/-! ### The envelope -/

/-- R137, R138, R140: an Attack step from within the bounds strictly raises the envelope, stays below 0.9903, and goes to
Decay exactly when the new value exceeds `C_THR_HI`. A Decay step strictly lowers it, and ends the voice exactly when
the product is below `C_THR_LO`, with the envelope at `+0.0`. -/
def Obligations.EnvelopeSteps : Prop :=
  (∀ v : Voice, v.envelopeState = .attack → v.attackCoeff = cAttack →
    fle cThrLo v.envelope = true → fle v.envelope cThrHi = true →
    flt v.envelope (envStep v).envelope = true ∧ 10000 * mag (envStep v).envelope < 9903 * 2 ^ 149 ∧
    ((envStep v).envelopeState = .decay ↔ fgt (envStep v).envelope cThrHi = true) ∧
    (envStep v).active = v.active) ∧
  (∀ v : Voice, v.envelopeState = .decay → v.decayCoeff = cDecay → v.active = true →
    fle cThrLo v.envelope = true → fle v.envelope cOne = true →
    flt (fmul v.envelope cDecay) v.envelope = true ∧ (envStep v).envelopeState = .decay ∧
    (flt (fmul v.envelope cDecay) cThrLo = true →
      (envStep v).envelope = 0x00000000#32 ∧ (envStep v).active = false) ∧
    (flt (fmul v.envelope cDecay) cThrLo = false →
      (envStep v).envelope = fmul v.envelope cDecay ∧ (envStep v).active = true))

/-- R137, R149, R218: from an allocation on, and whatever is drawn, Attack lasts 228 frames and the transient runs for
exactly 569, with the envelopes the rules give. -/
def Obligations.DurationsInFrames : Prop :=
  ∀ (v : Nat → Voice) (e : Nat → Entropy), (∀ k, v (k + 1) = frameVoice (v k) (e k)) →
    ((v 0).envelope = cEnvInit → (v 0).envelopeState = .attack → (v 0).attackCoeff = cAttack →
      (∀ k < 228, (v k).envelopeState = .attack) ∧ (v 227).envelope = 0x3F7D6409#32 ∧
      (v 228).envelopeState = .decay ∧ (v 228).envelope = 0x3F7D7165#32) ∧
    ((v 0).pluckEnvelope = cOne → (v 0).pluckDecayCoeff = cPdecay →
      (∀ k, pluckRuns (v k) = true ↔ k < 569) ∧
      (v 568).pluckEnvelope = 0x38D3EC18#32 ∧ (∀ k, 569 ≤ k → (v k).pluckEnvelope = 0x38D08474#32))

/-! ### The whole machine -/

/-- R21, R38: a voice becomes active only by an allocating `NOTEON` that selects it, and inactive only by `RENDER` or
reset. -/
def Obligations.VoiceActivationCauses : Prop :=
  ∀ (s t : State) (i : Slot), step s = .next t →
    ((s.voice i).active = false → (t.voice i).active = true →
      ∃ w p v, s.moves.head? = some (commandMove w) ∧ s.faulted = false ∧ decode w = .ok (.noteon p v) ∧ v ≠ 0 ∧
        s.agectr ≠ 0xFFFFFFFF#32 ∧ select s.voices = i) ∧
    ((s.voice i).active = true → (t.voice i).active = false →
      s.moves.head? = some .reset ∨
      (∃ w n, s.moves.head? = some (commandMove w) ∧ s.faulted = false ∧ decode w = .ok (.render n) ∧
        n ≤ s.params.blockMax ∧ 0 < n ∧ (t.voice i).envelope = fzero))

/-- R39 (b), (c), (d), R140, R150: every step keeps the voice file within its bounds, whatever is drawn. -/
def Obligations.VoiceFileSoundKept : Prop :=
  ∀ s t : State, s.VoicesSound → step s = .next t → t.VoicesSound

/-- R39 (a), R125: every step keeps the ages of allocated voices pairwise different. -/
def Obligations.AgesDistinctKept : Prop :=
  ∀ s t : State, s.AgesSound → step s = .next t → t.AgesSound

/-- R39 (e), R159: every step of an engine with a sound voice file keeps every sample finite and below 0.71. -/
def Obligations.OutputBoundKept : Prop :=
  ∀ s t : State, s.VoicesSound → s.OutputSound → step s = .next t → t.OutputSound

/-- R30, R34: every step keeps the output buffer at exactly `BLOCK_MAX` entries and `OUTLEN` within it. -/
def Obligations.BufferSoundKept : Prop :=
  ∀ s t : State, s.BufferSound → step s = .next t → t.BufferSound

/-- R203: what does not depend on a draw is reproducible. Two engines that differ only in what a draw can reach stay so
through any step, whatever each draws; and `RESULT` agrees after it where it agreed before, but for a `PHINC` of a
NaN. -/
def Obligations.EvolutionIndependentOfDraws : Prop :=
  ∀ s₁ s₂ t₁ t₂ : State, s₁.SameUpToDraws s₂ → step s₁ = .next t₁ → step s₂ = .next t₂ →
    t₁.SameUpToDraws t₂ ∧
    (s₂.result = s₁.result → (∀ w, s₁.moves.head? = some (commandMove w) → decode w = .ok .phinc →
      isNaN s₁.arg0 = false) → t₂.result = t₁.result)

end Slice0
end

