-- ==== Sys2Proof/Laws/Encoding.lean ====
section
/-! SUPPORT. Fields of command words as numbers: what an appended word and an extracted field are worth, and the
command words of the encoder (spec R71 to R75). -/

namespace Sys2Proof

/-- A word written as a high part and a low part. -/
theorem toNat_append_eq {n m : Nat} (x : BitVec n) (y : BitVec m) :
    (x ++ y).toNat = x.toNat * 2 ^ m + y.toNat := by
  rw [BitVec.toNat_append, ← Nat.shiftLeft_add_eq_or_of_lt y.isLt, Nat.shiftLeft_eq]

theorem opField_toNat (w : Word) : (opField w).toNat = w.toNat / 2 ^ 24 := by
  unfold opField
  rw [BitVec.extractLsb'_toNat, Nat.shiftRight_eq_div_pow]
  have := w.isLt
  omega

theorem zeroFieldNR_toNat (w : Word) : (zeroFieldNR w).toNat = w.toNat / 2 ^ 16 % 2 ^ 8 := by
  rw [zeroFieldNR, BitVec.extractLsb'_toNat, Nat.shiftRight_eq_div_pow]

theorem zeroFieldQ_toNat (w : Word) : (zeroFieldQ w).toNat = w.toNat % 2 ^ 24 := by
  rw [zeroFieldQ, BitVec.extractLsb'_toNat, Nat.shiftRight_eq_div_pow, Nat.pow_zero, Nat.div_one]

theorem pitchField_toNat (w : Word) : (pitchField w).toNat = w.toNat / 2 ^ 8 % 2 ^ 8 := by
  rw [pitchField, BitVec.extractLsb'_toNat, Nat.shiftRight_eq_div_pow]

theorem velField_toNat (w : Word) : (velField w).toNat = w.toNat % 2 ^ 8 := by
  rw [velField, BitVec.extractLsb'_toNat, Nat.shiftRight_eq_div_pow, Nat.pow_zero, Nat.div_one]

theorem nframesField_toNat (w : Word) : (nframesField w).toNat = w.toNat % 2 ^ 16 := by
  rw [nframesField, BitVec.extractLsb'_toNat, Nat.shiftRight_eq_div_pow, Nat.pow_zero, Nat.div_one]

theorem encode_noteon_toNat (pitch velocity : Nat) :
    (encode (.noteon pitch velocity)).toNat = 2 ^ 24 + pitch % 2 ^ 8 * 2 ^ 8 + velocity % 2 ^ 8 := by
  simp only [encode, toNat_append_eq, BitVec.toNat_ofNat]
  omega

theorem encode_render_toNat (nframes : Nat) :
    (encode (.render nframes)).toNat = 2 * 2 ^ 24 + nframes % 2 ^ 16 := by
  simp only [encode, toNat_append_eq, BitVec.toNat_ofNat]
  omega

end Sys2Proof
end

