-- ==== Sys2Proof/Laws/Float.lean ====
section
/-! SUPPORT. The rounding of binary32 (spec R11, R12), said once: the magnitude of a pattern, that rounding keeps
every representable value, that it is monotone, and how far it moves a value. -/

namespace Sys2Proof.Machine

/-! ### Magnitudes of patterns -/

/-- The magnitude, in units of `2^-149`, of the value with bits 30:0 equal to `u`. -/
def magOf (u : Nat) : Nat :=
  if u / 2 ^ 23 = 0 then u % 2 ^ 23 else (2 ^ 23 + u % 2 ^ 23) * 2 ^ (u / 2 ^ 23 - 1)

theorem mag_eq_magOf (x : F32) : mag x = magOf (x.toNat % 2 ^ 31) := by
  have h1 : expField x = x.toNat % 2 ^ 31 / 2 ^ 23 := by unfold expField; omega
  have h2 : fracField x = x.toNat % 2 ^ 31 % 2 ^ 23 := by unfold fracField; omega
  unfold mag magOf
  rw [h1, h2]

theorem magOf_of_lt {u : Nat} (h : u < 2 ^ 24) : magOf u = u := by
  unfold magOf
  split
  · omega
  · have : u / 2 ^ 23 - 1 = 0 := by omega
    rw [this]
    omega

/-- A pattern in normal form: exponent step `k`, significand `m`. -/
theorem magOf_normal {k m : Nat} (h1 : 2 ^ 23 ≤ m) (h2 : m < 2 ^ 24) : magOf (k * 2 ^ 23 + m) = m * 2 ^ k := by
  unfold magOf
  have hq : (k * 2 ^ 23 + m) / 2 ^ 23 = k + 1 := by omega
  have hr : (k * 2 ^ 23 + m) % 2 ^ 23 = m - 2 ^ 23 := by omega
  have hm : 2 ^ 23 + (m - 2 ^ 23) = m := by omega
  rw [hq, hr, if_neg (by omega), Nat.add_sub_cancel, hm]

/-- The carry of a significand into the exponent keeps the value. -/
theorem magOf_carry (k : Nat) : magOf (k * 2 ^ 23 + 2 ^ 24) = 2 ^ 24 * 2 ^ k := by
  have h := magOf_normal (k := k + 1) (m := 2 ^ 23) (by omega) (by omega)
  have e : (k + 1) * 2 ^ 23 + 2 ^ 23 = k * 2 ^ 23 + 2 ^ 24 := by omega
  rw [e] at h
  rw [h, Nat.pow_succ]
  omega

/-- Every pattern is subnormal or in normal form. -/
theorem pattern_cases (u : Nat) :
    u < 2 ^ 23 ∨ ∃ k m, u = k * 2 ^ 23 + m ∧ 2 ^ 23 ≤ m ∧ m < 2 ^ 24 := by
  by_cases h : u < 2 ^ 23
  · exact .inl h
  · exact .inr ⟨u / 2 ^ 23 - 1, 2 ^ 23 + u % 2 ^ 23, by omega, by omega, by omega⟩

/-- A larger pattern is a larger magnitude. -/
theorem magOf_lt_succ (u : Nat) : magOf u < magOf (u + 1) := by
  rcases pattern_cases u with h | ⟨k, m, rfl, h1, h2⟩
  · rw [magOf_of_lt (by omega), magOf_of_lt (by omega)]
    omega
  · rw [magOf_normal h1 h2]
    have hp : 0 < 2 ^ k := Nat.two_pow_pos k
    by_cases hm : m + 1 < 2 ^ 24
    · rw [Nat.add_assoc, magOf_normal (by omega) hm]
      exact Nat.mul_lt_mul_of_pos_right (by omega) hp
    · have hm' : m + 1 = 2 ^ 24 := by omega
      rw [Nat.add_assoc, hm', magOf_carry]
      exact Nat.mul_lt_mul_of_pos_right h2 hp

theorem magOf_strictMono : StrictMono magOf := strictMono_nat_of_lt_succ magOf_lt_succ

/-! ### The significand -/

/-- Division rounded to nearest, ties to even: the significand that `roundMag` takes. -/
def divRne (n d : Nat) : Nat :=
  if 2 * (n % d) < d ∨ (2 * (n % d) = d ∧ n / d % 2 = 0) then n / d else n / d + 1

theorem roundMag_eq (num den : Nat) :
    roundMag num den =
      min ((Nat.log2 (num / den) - 23) * 2 ^ 23 + divRne num (den * 2 ^ (Nat.log2 (num / den) - 23))) 0x7F800000 := rfl

theorem divRne_bounds (n d : Nat) : n / d ≤ divRne n d ∧ divRne n d ≤ n / d + 1 := by
  unfold divRne
  split <;> omega

theorem divRne_mul_right (q : Nat) {d : Nat} (hd : 0 < d) : divRne (q * d) d = q := by
  unfold divRne
  rw [Nat.mul_mod_left, Nat.mul_div_cancel _ hd, if_pos (by omega)]

/-- The rounded quotient is within half a unit of the exact one. -/
theorem divRne_error (n : Nat) {d : Nat} (hd : 0 < d) :
    2 * (divRne n d * d) ≤ 2 * n + d ∧ 2 * n ≤ 2 * (divRne n d * d) + d := by
  have hdiv := Nat.div_add_mod n d
  have hlt := Nat.mod_lt n hd
  unfold divRne
  split
  · have : n / d * d = d * (n / d) := Nat.mul_comm _ _
    omega
  · have : (n / d + 1) * d = d * (n / d) + d := by ring
    omega

theorem divRne_mono {n1 d1 n2 d2 : Nat} (h1 : 0 < d1) (h2 : 0 < d2) (h : n1 * d2 ≤ n2 * d1) :
    divRne n1 d1 ≤ divRne n2 d2 := by
  have hq : n1 / d1 ≤ n2 / d2 := by
    rw [Nat.le_div_iff_mul_le h2]
    have h3 : n1 / d1 * d1 ≤ n1 := Nat.div_mul_le_self n1 d1
    have h4 : n1 / d1 * d2 * d1 ≤ n2 * d1 :=
      calc n1 / d1 * d2 * d1 = n1 / d1 * d1 * d2 := by ring
        _ ≤ n1 * d2 := Nat.mul_le_mul_right _ h3
        _ ≤ n2 * d1 := h
    exact Nat.le_of_mul_le_mul_right h4 h1
  have b1 := divRne_bounds n1 d1
  have b2 := divRne_bounds n2 d2
  rcases Nat.lt_or_eq_of_le hq with hlt | heq
  · omega
  · have e1 := Nat.div_add_mod n1 d1
    have e2 := Nat.div_add_mod n2 d2
    have hr : n1 % d1 * d2 ≤ n2 % d2 * d1 := by
      have k1 : n1 * d2 = d1 * d2 * (n1 / d1) + n1 % d1 * d2 := by
        conv_lhs => rw [← e1]
        ring
      have k2 : n2 * d1 = d1 * d2 * (n1 / d1) + n2 % d2 * d1 := by
        conv_lhs => rw [← e2, ← heq]
        ring
      omega
    unfold divRne
    rw [← heq]
    split
    · split <;> omega
    · next c1 =>
      split
      · next c2 =>
        exfalso
        apply c1
        rcases c2 with c2 | ⟨c2, c3⟩
        · left
          have : 2 * (n1 % d1) * d2 < d1 * d2 :=
            calc 2 * (n1 % d1) * d2 = 2 * (n1 % d1 * d2) := by ring
              _ ≤ 2 * (n2 % d2 * d1) := Nat.mul_le_mul_left 2 hr
              _ = 2 * (n2 % d2) * d1 := by ring
              _ < d2 * d1 := Nat.mul_lt_mul_of_pos_right c2 h1
              _ = d1 * d2 := by ring
          exact Nat.lt_of_mul_lt_mul_right this
        · have : 2 * (n1 % d1) * d2 ≤ d1 * d2 :=
            calc 2 * (n1 % d1) * d2 = 2 * (n1 % d1 * d2) := by ring
              _ ≤ 2 * (n2 % d2 * d1) := Nat.mul_le_mul_left 2 hr
              _ = 2 * (n2 % d2) * d1 := by ring
              _ = d1 * d2 := by rw [c2]; ring
          rcases Nat.lt_or_eq_of_le (Nat.le_of_mul_le_mul_right this h2) with g | g
          · exact .inl g
          · exact .inr ⟨g, c3⟩
      · omega

/-! ### Rounding -/

/-- The exponent step of `roundMag` and its significand lie in one binade. -/
theorem roundMag_binade (num den : Nat) :
    let k := Nat.log2 (num / den) - 23
    divRne num (den * 2 ^ k) ≤ 2 ^ 24 ∧ (0 < k → 2 ^ 23 ≤ divRne num (den * 2 ^ k)) := by
  intro k
  have hp : 0 < 2 ^ k := Nat.two_pow_pos k
  have hdiv : num / (den * 2 ^ k) = num / den / 2 ^ k := (Nat.div_div_eq_div_mul ..).symm
  have b := divRne_bounds num (den * 2 ^ k)
  rw [hdiv] at b
  constructor
  · have h1 : num / den < 2 ^ (Nat.log2 (num / den) + 1) := Nat.lt_log2_self
    have h2 : (2 : Nat) ^ (Nat.log2 (num / den) + 1) ≤ 2 ^ (24 + k) := Nat.pow_le_pow_right (by omega) (by omega)
    have h3 : num / den / 2 ^ k < 2 ^ 24 := by
      rw [Nat.div_lt_iff_lt_mul hp, ← Nat.pow_add]
      omega
    omega
  · intro hk
    have hne : num / den ≠ 0 := by
      intro h0
      have : Nat.log2 (num / den) = 0 := by rw [h0]; rfl
      omega
    have h1 : 2 ^ Nat.log2 (num / den) ≤ num / den := Nat.log2_self_le hne
    have h2 : Nat.log2 (num / den) = 23 + k := by omega
    have h3 : 2 ^ 23 ≤ num / den / 2 ^ k := by
      rw [Nat.le_div_iff_mul_le hp, ← Nat.pow_add, ← h2]
      exact h1
    omega

theorem roundMag_le_inf (num den : Nat) : roundMag num den ≤ 0x7F800000 := by
  rw [roundMag_eq]
  exact Nat.min_le_right _ _

/-- Rounding is monotone. -/
theorem roundMag_mono {n1 d1 n2 d2 : Nat} (h1 : 0 < d1) (h2 : 0 < d2) (h : n1 * d2 ≤ n2 * d1) :
    roundMag n1 d1 ≤ roundMag n2 d2 := by
  have b1 := roundMag_binade n1 d1
  have b2 := roundMag_binade n2 d2
  rw [roundMag_eq, roundMag_eq]
  have hq : n1 / d1 ≤ n2 / d2 := by
    rw [Nat.le_div_iff_mul_le h2]
    have h4 : n1 / d1 * d2 * d1 ≤ n2 * d1 :=
      calc n1 / d1 * d2 * d1 = n1 / d1 * d1 * d2 := by ring
        _ ≤ n1 * d2 := Nat.mul_le_mul_right _ (Nat.div_mul_le_self n1 d1)
        _ ≤ n2 * d1 := h
    exact Nat.le_of_mul_le_mul_right h4 h1
  have hl : Nat.log2 (n1 / d1) ≤ Nat.log2 (n2 / d2) := by
    rw [Nat.log2_eq_log_two, Nat.log2_eq_log_two]
    exact Nat.log_mono_right hq
  generalize hk1 : Nat.log2 (n1 / d1) - 23 = k1 at *
  generalize hk2 : Nat.log2 (n2 / d2) - 23 = k2 at *
  dsimp only at b1 b2
  have hk : k1 ≤ k2 := by omega
  refine min_le_min ?_ le_rfl
  rcases Nat.lt_or_eq_of_le hk with hlt | heq
  · have := b2.2 (by omega)
    have := b1.1
    have : (k1 + 1) * 2 ^ 23 ≤ k2 * 2 ^ 23 := Nat.mul_le_mul_right _ hlt
    omega
  · subst heq
    have : divRne n1 (d1 * 2 ^ k1) ≤ divRne n2 (d2 * 2 ^ k1) := by
      apply divRne_mono (Nat.mul_pos h1 (Nat.two_pow_pos _)) (Nat.mul_pos h2 (Nat.two_pow_pos _))
      calc n1 * (d2 * 2 ^ k1) = n1 * d2 * 2 ^ k1 := by ring
        _ ≤ n2 * d1 * 2 ^ k1 := Nat.mul_le_mul_right _ h
        _ = n2 * (d1 * 2 ^ k1) := by ring
    omega

/-- Rounding keeps every representable value, written over any denominator. -/
theorem roundMag_exact {u : Nat} (hu : u ≤ 0x7F800000) {d : Nat} (hd : 0 < d) : roundMag (magOf u * d) d = u := by
  rw [roundMag_eq, Nat.mul_div_cancel _ hd]
  rcases pattern_cases u with h | ⟨k, m, rfl, h1, h2⟩
  · have hm : magOf u = u := magOf_of_lt (by omega)
    have hk : Nat.log2 (magOf u) - 23 = 0 := by
      rw [hm]
      by_cases h0 : u = 0
      · subst h0; rfl
      · have := (Nat.log2_lt h0).2 h
        omega
    rw [hk, Nat.pow_zero, Nat.mul_one, divRne_mul_right _ hd, hm]
    omega
  · have hm : magOf (k * 2 ^ 23 + m) = m * 2 ^ k := magOf_normal h1 h2
    have hp : 0 < 2 ^ k := Nat.two_pow_pos k
    have hk : Nat.log2 (magOf (k * 2 ^ 23 + m)) - 23 = k := by
      rw [hm]
      have hne : m * 2 ^ k ≠ 0 := Nat.mul_ne_zero (by omega) (by omega)
      have e : Nat.log2 (m * 2 ^ k) = 23 + k := by
        rw [Nat.log2_eq_iff hne]
        constructor
        · rw [Nat.pow_add]
          exact Nat.mul_le_mul_right _ h1
        · have : (2 : Nat) ^ (23 + k + 1) = 2 ^ 24 * 2 ^ k := by rw [← Nat.pow_add]; congr 1; omega
          rw [this]
          exact Nat.mul_lt_mul_of_pos_right h2 hp
      omega
    rw [hk, hm, show m * 2 ^ k * d = m * (d * 2 ^ k) by ring, divRne_mul_right _ (Nat.mul_pos hd hp)]
    omega

/-- A value at most a representable one rounds to at most it. -/
theorem roundMag_le_of_le {num den u : Nat} (hd : 0 < den) (hu : u ≤ 0x7F800000) (h : num ≤ magOf u * den) :
    roundMag num den ≤ u := by
  have := roundMag_mono (n2 := magOf u * den) hd hd (Nat.mul_le_mul_right _ h)
  rwa [roundMag_exact hu hd] at this

/-- A value at least a representable one rounds to at least it. -/
theorem le_roundMag_of_le {num den u : Nat} (hd : 0 < den) (hu : u ≤ 0x7F800000) (h : magOf u * den ≤ num) :
    u ≤ roundMag num den := by
  have := roundMag_mono (n1 := magOf u * den) hd hd (Nat.mul_le_mul_right _ h)
  rwa [roundMag_exact hu hd] at this

/-- What `roundMag` stands for below the overflow: significand times power of two. -/
theorem magOf_roundMag {num den : Nat} (h : roundMag num den < 0x7F800000) :
    magOf (roundMag num den) =
      divRne num (den * 2 ^ (Nat.log2 (num / den) - 23)) * 2 ^ (Nat.log2 (num / den) - 23) := by
  have b := roundMag_binade num den
  dsimp only at b
  rw [roundMag_eq] at h ⊢
  generalize Nat.log2 (num / den) - 23 = k at *
  rw [Nat.min_eq_left (by omega)]
  rcases Nat.lt_or_eq_of_le b.1 with hm | hm
  · by_cases h23 : 2 ^ 23 ≤ divRne num (den * 2 ^ k)
    · exact magOf_normal h23 hm
    · have hk : k = 0 := by
        rcases Nat.eq_zero_or_pos k with h0 | h0
        · exact h0
        · exact absurd (b.2 h0) h23
      subst hk
      rw [magOf_of_lt (by omega)]
      omega
  · rw [hm]
    exact magOf_carry k

/-- The rounding error, below the overflow: at most half a unit in the last place, the unit being `2^k`. -/
theorem roundMag_error {num den : Nat} (hd : 0 < den) (h : roundMag num den < 0x7F800000) :
    2 * (magOf (roundMag num den) * den) ≤ 2 * num + den * 2 ^ (Nat.log2 (num / den) - 23) ∧
      2 * num ≤ 2 * (magOf (roundMag num den) * den) + den * 2 ^ (Nat.log2 (num / den) - 23) := by
  rw [magOf_roundMag h]
  have e := divRne_error num (d := den * 2 ^ (Nat.log2 (num / den) - 23)) (Nat.mul_pos hd (Nat.two_pow_pos _))
  have : divRne num (den * 2 ^ (Nat.log2 (num / den) - 23)) * 2 ^ (Nat.log2 (num / den) - 23) * den =
      divRne num (den * 2 ^ (Nat.log2 (num / den) - 23)) * (den * 2 ^ (Nat.log2 (num / den) - 23)) := by ring
  rw [this]
  exact e

/-! ### Patterns with a sign -/

theorem ofMag_toNat (neg : Bool) {u : Nat} (hu : u < 2 ^ 31) :
    (ofMag neg u).toNat = (if neg then 2 ^ 31 else 0) + u := by
  unfold ofMag
  rw [BitVec.toNat_ofNat]
  cases neg <;> simp <;> omega

@[simp] theorem signBit_ofMag (neg : Bool) {u : Nat} (hu : u < 2 ^ 31) : signBit (ofMag neg u) = neg := by
  unfold signBit
  rw [BitVec.msb_eq_decide, ofMag_toNat neg hu]
  cases neg with
  | false => simp; omega
  | true => simp

@[simp] theorem mag_ofMag (neg : Bool) {u : Nat} (hu : u < 2 ^ 31) : mag (ofMag neg u) = magOf u := by
  rw [mag_eq_magOf, ofMag_toNat neg hu]
  congr 1
  cases neg <;> simp <;> omega

theorem isNaN_ofMag (neg : Bool) {u : Nat} (hu : u ≤ 0x7F800000) : isNaN (ofMag neg u) = false := by
  have h : (ofMag neg u).toNat = (if neg then 2 ^ 31 else 0) + u := ofMag_toNat neg (by omega)
  unfold isNaN expField fracField
  rw [h]
  have : ¬ ((((if neg = true then 2 ^ 31 else 0) + u) / 2 ^ 23 % 256 = 255) ∧
      ¬ (((if neg = true then 2 ^ 31 else 0) + u) % 2 ^ 23 = 0)) := by
    cases neg <;> simp <;> omega
  simpa using this

theorem isNaN_roundF (neg : Bool) (num den : Nat) : isNaN (roundF neg num den) = false :=
  isNaN_ofMag neg (roundMag_le_inf num den)

@[simp] theorem mag_roundF (neg : Bool) (num den : Nat) : mag (roundF neg num den) = magOf (roundMag num den) :=
  mag_ofMag neg (lt_of_le_of_lt (roundMag_le_inf num den) (by omega))

@[simp] theorem signBit_roundF (neg : Bool) (num den : Nat) : signBit (roundF neg num den) = neg :=
  signBit_ofMag neg (lt_of_le_of_lt (roundMag_le_inf num den) (by omega))

/-- A pattern that is no NaN has bits 30:0 of at most those of an infinity. -/
theorem isNaN_eq_false_iff (x : F32) : isNaN x = false ↔ x.toNat % 2 ^ 31 ≤ 0x7F800000 := by
  unfold isNaN expField fracField
  have : ((x.toNat / 2 ^ 23 % 256 = 255) ∧ ¬ (x.toNat % 2 ^ 23 = 0)) ↔ ¬ (x.toNat % 2 ^ 31 ≤ 0x7F800000) := by omega
  rw [← Bool.not_eq_true, Bool.and_eq_true, beq_iff_eq, bne_iff_ne, ne_eq, this, not_not]

end Sys2Proof.Machine
end

