-- ==== Sys2Proof/Laws/State.lean ====
section
/-! SUPPORT. The fields of the state after each named update: one lemma per field per update, all by definition. -/

namespace Sys2Proof.Machine

variable (s : State)

@[simp] theorem State.voices_setVoice (i : Slot) (v : Voice) :
    (s.setVoice i v).voices = writeVoice s.voices i v := rfl

@[simp] theorem State.out_setVoice (i : Slot) (v : Voice) :
    (s.setVoice i v).out = s.out := rfl

@[simp] theorem State.agectr_setVoice (i : Slot) (v : Voice) :
    (s.setVoice i v).agectr = s.agectr := rfl

@[simp] theorem State.arg0_setVoice (i : Slot) (v : Voice) :
    (s.setVoice i v).arg0 = s.arg0 := rfl

@[simp] theorem State.result_setVoice (i : Slot) (v : Voice) :
    (s.setVoice i v).result = s.result := rfl

@[simp] theorem State.status_setVoice (i : Slot) (v : Voice) :
    (s.setVoice i v).status = s.status := rfl

@[simp] theorem State.faultcmd_setVoice (i : Slot) (v : Voice) :
    (s.setVoice i v).faultcmd = s.faultcmd := rfl

@[simp] theorem State.outlen_setVoice (i : Slot) (v : Voice) :
    (s.setVoice i v).outlen = s.outlen := rfl

@[simp] theorem State.params_setVoice (i : Slot) (v : Voice) :
    (s.setVoice i v).params = s.params := rfl

@[simp] theorem State.entropy_setVoice (i : Slot) (v : Voice) :
    (s.setVoice i v).entropy = s.entropy := rfl

@[simp] theorem State.moves_setVoice (i : Slot) (v : Voice) :
    (s.setVoice i v).moves = s.moves := rfl

@[simp] theorem State.responses_setVoice (i : Slot) (v : Voice) :
    (s.setVoice i v).responses = s.responses := rfl

@[simp] theorem State.voices_setResult (w : Word) :
    (s.setResult w).voices = s.voices := rfl

@[simp] theorem State.out_setResult (w : Word) :
    (s.setResult w).out = s.out := rfl

@[simp] theorem State.agectr_setResult (w : Word) :
    (s.setResult w).agectr = s.agectr := rfl

@[simp] theorem State.arg0_setResult (w : Word) :
    (s.setResult w).arg0 = s.arg0 := rfl

@[simp] theorem State.result_setResult (w : Word) :
    (s.setResult w).result = w := rfl

@[simp] theorem State.status_setResult (w : Word) :
    (s.setResult w).status = s.status := rfl

@[simp] theorem State.faultcmd_setResult (w : Word) :
    (s.setResult w).faultcmd = s.faultcmd := rfl

@[simp] theorem State.outlen_setResult (w : Word) :
    (s.setResult w).outlen = s.outlen := rfl

@[simp] theorem State.params_setResult (w : Word) :
    (s.setResult w).params = s.params := rfl

@[simp] theorem State.entropy_setResult (w : Word) :
    (s.setResult w).entropy = s.entropy := rfl

@[simp] theorem State.moves_setResult (w : Word) :
    (s.setResult w).moves = s.moves := rfl

@[simp] theorem State.responses_setResult (w : Word) :
    (s.setResult w).responses = s.responses := rfl

@[simp] theorem State.voices_setArg0 (w : Word) :
    (s.setArg0 w).voices = s.voices := rfl

@[simp] theorem State.out_setArg0 (w : Word) :
    (s.setArg0 w).out = s.out := rfl

@[simp] theorem State.agectr_setArg0 (w : Word) :
    (s.setArg0 w).agectr = s.agectr := rfl

@[simp] theorem State.arg0_setArg0 (w : Word) :
    (s.setArg0 w).arg0 = w := rfl

@[simp] theorem State.result_setArg0 (w : Word) :
    (s.setArg0 w).result = s.result := rfl

@[simp] theorem State.status_setArg0 (w : Word) :
    (s.setArg0 w).status = s.status := rfl

@[simp] theorem State.faultcmd_setArg0 (w : Word) :
    (s.setArg0 w).faultcmd = s.faultcmd := rfl

@[simp] theorem State.outlen_setArg0 (w : Word) :
    (s.setArg0 w).outlen = s.outlen := rfl

@[simp] theorem State.params_setArg0 (w : Word) :
    (s.setArg0 w).params = s.params := rfl

@[simp] theorem State.entropy_setArg0 (w : Word) :
    (s.setArg0 w).entropy = s.entropy := rfl

@[simp] theorem State.moves_setArg0 (w : Word) :
    (s.setArg0 w).moves = s.moves := rfl

@[simp] theorem State.responses_setArg0 (w : Word) :
    (s.setArg0 w).responses = s.responses := rfl

@[simp] theorem State.voices_raiseFault (c : Cause) (w : Word) :
    (s.raiseFault c w).voices = s.voices := rfl

@[simp] theorem State.out_raiseFault (c : Cause) (w : Word) :
    (s.raiseFault c w).out = s.out := rfl

@[simp] theorem State.agectr_raiseFault (c : Cause) (w : Word) :
    (s.raiseFault c w).agectr = s.agectr := rfl

@[simp] theorem State.arg0_raiseFault (c : Cause) (w : Word) :
    (s.raiseFault c w).arg0 = s.arg0 := rfl

@[simp] theorem State.result_raiseFault (c : Cause) (w : Word) :
    (s.raiseFault c w).result = s.result := rfl

@[simp] theorem State.status_raiseFault (c : Cause) (w : Word) :
    (s.raiseFault c w).status = statusOf c := rfl

@[simp] theorem State.faultcmd_raiseFault (c : Cause) (w : Word) :
    (s.raiseFault c w).faultcmd = w := rfl

@[simp] theorem State.outlen_raiseFault (c : Cause) (w : Word) :
    (s.raiseFault c w).outlen = s.outlen := rfl

@[simp] theorem State.params_raiseFault (c : Cause) (w : Word) :
    (s.raiseFault c w).params = s.params := rfl

@[simp] theorem State.entropy_raiseFault (c : Cause) (w : Word) :
    (s.raiseFault c w).entropy = s.entropy := rfl

@[simp] theorem State.moves_raiseFault (c : Cause) (w : Word) :
    (s.raiseFault c w).moves = s.moves := rfl

@[simp] theorem State.responses_raiseFault (c : Cause) (w : Word) :
    (s.raiseFault c w).responses = s.responses := rfl

@[simp] theorem State.voices_resetEngine :
    s.resetEngine.voices = Vector.replicate Config.numVoices Voice.zero := rfl

@[simp] theorem State.out_resetEngine :
    s.resetEngine.out = List.replicate s.params.blockMax 0 := rfl

@[simp] theorem State.agectr_resetEngine :
    s.resetEngine.agectr = 0 := rfl

@[simp] theorem State.arg0_resetEngine :
    s.resetEngine.arg0 = 0 := rfl

@[simp] theorem State.result_resetEngine :
    s.resetEngine.result = 0 := rfl

@[simp] theorem State.status_resetEngine :
    s.resetEngine.status = 0 := rfl

@[simp] theorem State.faultcmd_resetEngine :
    s.resetEngine.faultcmd = 0 := rfl

@[simp] theorem State.outlen_resetEngine :
    s.resetEngine.outlen = 0 := rfl

@[simp] theorem State.params_resetEngine :
    s.resetEngine.params = s.params := rfl

@[simp] theorem State.entropy_resetEngine :
    s.resetEngine.entropy = s.entropy := rfl

@[simp] theorem State.moves_resetEngine :
    s.resetEngine.moves = s.moves := rfl

@[simp] theorem State.responses_resetEngine :
    s.resetEngine.responses = s.responses := rfl

@[simp] theorem State.voices_takeMove :
    s.takeMove.voices = s.voices := rfl

@[simp] theorem State.out_takeMove :
    s.takeMove.out = s.out := rfl

@[simp] theorem State.agectr_takeMove :
    s.takeMove.agectr = s.agectr := rfl

@[simp] theorem State.arg0_takeMove :
    s.takeMove.arg0 = s.arg0 := rfl

@[simp] theorem State.result_takeMove :
    s.takeMove.result = s.result := rfl

@[simp] theorem State.status_takeMove :
    s.takeMove.status = s.status := rfl

@[simp] theorem State.faultcmd_takeMove :
    s.takeMove.faultcmd = s.faultcmd := rfl

@[simp] theorem State.outlen_takeMove :
    s.takeMove.outlen = s.outlen := rfl

@[simp] theorem State.params_takeMove :
    s.takeMove.params = s.params := rfl

@[simp] theorem State.entropy_takeMove :
    s.takeMove.entropy = s.entropy := rfl

@[simp] theorem State.moves_takeMove :
    s.takeMove.moves = s.moves.tail := rfl

@[simp] theorem State.responses_takeMove :
    s.takeMove.responses = s.responses := rfl

@[simp] theorem State.voices_respond (r : BusResponse) :
    (s.respond r).voices = s.voices := rfl

@[simp] theorem State.out_respond (r : BusResponse) :
    (s.respond r).out = s.out := rfl

@[simp] theorem State.agectr_respond (r : BusResponse) :
    (s.respond r).agectr = s.agectr := rfl

@[simp] theorem State.arg0_respond (r : BusResponse) :
    (s.respond r).arg0 = s.arg0 := rfl

@[simp] theorem State.result_respond (r : BusResponse) :
    (s.respond r).result = s.result := rfl

@[simp] theorem State.status_respond (r : BusResponse) :
    (s.respond r).status = s.status := rfl

@[simp] theorem State.faultcmd_respond (r : BusResponse) :
    (s.respond r).faultcmd = s.faultcmd := rfl

@[simp] theorem State.outlen_respond (r : BusResponse) :
    (s.respond r).outlen = s.outlen := rfl

@[simp] theorem State.params_respond (r : BusResponse) :
    (s.respond r).params = s.params := rfl

@[simp] theorem State.entropy_respond (r : BusResponse) :
    (s.respond r).entropy = s.entropy := rfl

@[simp] theorem State.moves_respond (r : BusResponse) :
    (s.respond r).moves = s.moves := rfl

@[simp] theorem State.responses_respond (r : BusResponse) :
    (s.respond r).responses = r :: s.responses := rfl

@[simp] theorem State.voices_allocate (p : Nat) :
    (s.allocate p).voices = writeVoice s.voices (select s.voices) (allocatedVoice s.params (Config.freePhaseInc s.entropy.unspecified) p
      (select s.voices) s.entropy.jitterValue s.agectr) := rfl

@[simp] theorem State.out_allocate (p : Nat) :
    (s.allocate p).out = s.out := rfl

@[simp] theorem State.agectr_allocate (p : Nat) :
    (s.allocate p).agectr = s.agectr + 1 := rfl

@[simp] theorem State.arg0_allocate (p : Nat) :
    (s.allocate p).arg0 = s.arg0 := rfl

@[simp] theorem State.result_allocate (p : Nat) :
    (s.allocate p).result = slotWord (select s.voices) := rfl

@[simp] theorem State.status_allocate (p : Nat) :
    (s.allocate p).status = s.status := rfl

@[simp] theorem State.faultcmd_allocate (p : Nat) :
    (s.allocate p).faultcmd = s.faultcmd := rfl

@[simp] theorem State.outlen_allocate (p : Nat) :
    (s.allocate p).outlen = s.outlen := rfl

@[simp] theorem State.params_allocate (p : Nat) :
    (s.allocate p).params = s.params := rfl

@[simp] theorem State.entropy_allocate (p : Nat) :
    (s.allocate p).entropy = s.entropy.afterJitter := rfl

@[simp] theorem State.moves_allocate (p : Nat) :
    (s.allocate p).moves = s.moves := rfl

@[simp] theorem State.responses_allocate (p : Nat) :
    (s.allocate p).responses = s.responses := rfl

@[simp] theorem State.voices_withBlock (n : Nat) (m : Mix) :
    (s.withBlock n m).voices = m.voices := rfl

@[simp] theorem State.out_withBlock (n : Nat) (m : Mix) :
    (s.withBlock n m).out = m.acc.map softclip ++ s.out.drop n := rfl

@[simp] theorem State.agectr_withBlock (n : Nat) (m : Mix) :
    (s.withBlock n m).agectr = s.agectr := rfl

@[simp] theorem State.arg0_withBlock (n : Nat) (m : Mix) :
    (s.withBlock n m).arg0 = s.arg0 := rfl

@[simp] theorem State.result_withBlock (n : Nat) (m : Mix) :
    (s.withBlock n m).result = s.result := rfl

@[simp] theorem State.status_withBlock (n : Nat) (m : Mix) :
    (s.withBlock n m).status = s.status := rfl

@[simp] theorem State.faultcmd_withBlock (n : Nat) (m : Mix) :
    (s.withBlock n m).faultcmd = s.faultcmd := rfl

@[simp] theorem State.outlen_withBlock (n : Nat) (m : Mix) :
    (s.withBlock n m).outlen = frameCountWord n := rfl

@[simp] theorem State.params_withBlock (n : Nat) (m : Mix) :
    (s.withBlock n m).params = s.params := rfl

@[simp] theorem State.entropy_withBlock (n : Nat) (m : Mix) :
    (s.withBlock n m).entropy = m.entropy := rfl

@[simp] theorem State.moves_withBlock (n : Nat) (m : Mix) :
    (s.withBlock n m).moves = s.moves := rfl

@[simp] theorem State.responses_withBlock (n : Nat) (m : Mix) :
    (s.withBlock n m).responses = s.responses := rfl

@[simp] theorem State.voices_renderBlock (n : Nat) :
    (s.renderBlock n).voices = (mixBlock n s.voices s.entropy).voices :=
  s.voices_withBlock n _

@[simp] theorem State.out_renderBlock (n : Nat) :
    (s.renderBlock n).out = (mixBlock n s.voices s.entropy).acc.map softclip ++ s.out.drop n :=
  s.out_withBlock n _

@[simp] theorem State.agectr_renderBlock (n : Nat) :
    (s.renderBlock n).agectr = s.agectr :=
  s.agectr_withBlock n _

@[simp] theorem State.arg0_renderBlock (n : Nat) :
    (s.renderBlock n).arg0 = s.arg0 :=
  s.arg0_withBlock n _

@[simp] theorem State.result_renderBlock (n : Nat) :
    (s.renderBlock n).result = s.result :=
  s.result_withBlock n _

@[simp] theorem State.status_renderBlock (n : Nat) :
    (s.renderBlock n).status = s.status :=
  s.status_withBlock n _

@[simp] theorem State.faultcmd_renderBlock (n : Nat) :
    (s.renderBlock n).faultcmd = s.faultcmd :=
  s.faultcmd_withBlock n _

@[simp] theorem State.outlen_renderBlock (n : Nat) :
    (s.renderBlock n).outlen = frameCountWord n :=
  s.outlen_withBlock n _

@[simp] theorem State.params_renderBlock (n : Nat) :
    (s.renderBlock n).params = s.params :=
  s.params_withBlock n _

@[simp] theorem State.entropy_renderBlock (n : Nat) :
    (s.renderBlock n).entropy = (mixBlock n s.voices s.entropy).entropy :=
  s.entropy_withBlock n _

@[simp] theorem State.moves_renderBlock (n : Nat) :
    (s.renderBlock n).moves = s.moves :=
  s.moves_withBlock n _

@[simp] theorem State.responses_renderBlock (n : Nat) :
    (s.renderBlock n).responses = s.responses :=
  s.responses_withBlock n _

@[simp] theorem Entropy.noise_afterNoise (e : Entropy) : e.afterNoise.noise = e.noise.tail := rfl

@[simp] theorem Entropy.jitter_afterNoise (e : Entropy) : e.afterNoise.jitter = e.jitter := rfl

@[simp] theorem Entropy.noiseDraws_afterNoise (e : Entropy) : e.afterNoise.noiseDraws = e.noiseDraws + 1 := rfl

@[simp] theorem Entropy.jitterDraws_afterNoise (e : Entropy) : e.afterNoise.jitterDraws = e.jitterDraws := rfl

@[simp] theorem Entropy.unspecified_afterNoise (e : Entropy) : e.afterNoise.unspecified = e.unspecified := rfl

@[simp] theorem Entropy.noise_afterJitter (e : Entropy) : e.afterJitter.noise = e.noise := rfl

@[simp] theorem Entropy.jitter_afterJitter (e : Entropy) : e.afterJitter.jitter = e.jitter.tail := rfl

@[simp] theorem Entropy.noiseDraws_afterJitter (e : Entropy) : e.afterJitter.noiseDraws = e.noiseDraws := rfl

@[simp] theorem Entropy.jitterDraws_afterJitter (e : Entropy) : e.afterJitter.jitterDraws = e.jitterDraws + 1 := rfl

@[simp] theorem Entropy.unspecified_afterJitter (e : Entropy) : e.afterJitter.unspecified = e.unspecified := rfl

end Sys2Proof.Machine
end

