-- ==== Sys2Proof/Laws/Ops.lean ====
section
/-! SUPPORT. What the named operations do, said once: the voice file, the slots, the draws, `Select`. -/

namespace Sys2Proof.Machine

/-! ### The voice file -/

/-- A voice file after one voice was written, by slot. -/
theorem voiceAt_writeVoice (vs : VoiceFile) (i j : Slot) (v : Voice) :
    voiceAt (writeVoice vs i v) j = if i = j then v else voiceAt vs j := by
  by_cases h : i = j
  · subst h; simp [voiceAt, writeVoice]
  · have h' : (i : Nat) ≠ (j : Nat) := fun e => h (Fin.ext e)
    simp [voiceAt, writeVoice, h, h']

@[simp] theorem voiceAt_writeVoice_same (vs : VoiceFile) (i : Slot) (v : Voice) :
    voiceAt (writeVoice vs i v) i = v := by
  simp [voiceAt_writeVoice]

theorem voiceAt_writeVoice_ne (vs : VoiceFile) {i j : Slot} (h : i ≠ j) (v : Voice) :
    voiceAt (writeVoice vs i v) j = voiceAt vs j := by
  simp [voiceAt_writeVoice, h]

@[simp] theorem voiceAt_replicate (v : Voice) (i : Slot) : voiceAt (Vector.replicate Config.numVoices v) i = v := by
  simp [voiceAt]

/-- Two voice files with the same voice in every slot are the same. -/
theorem voices_ext {vs ws : VoiceFile} (h : ∀ i : Slot, voiceAt vs i = voiceAt ws i) : vs = ws := by
  apply Vector.ext
  intro i hi
  exact h ⟨i, hi⟩

@[simp] theorem State.voice_setVoice_same (s : State) (i : Slot) (v : Voice) : (s.setVoice i v).voice i = v := by
  simp [State.voice]

theorem State.voice_setVoice_ne (s : State) {i j : Slot} (h : i ≠ j) (v : Voice) :
    (s.setVoice i v).voice j = s.voice j := by
  simp [State.voice, voiceAt_writeVoice, h]

@[simp] theorem State.voice_setResult (s : State) (w : Word) (i : Slot) : (s.setResult w).voice i = s.voice i := rfl

@[simp] theorem State.voice_setArg0 (s : State) (w : Word) (i : Slot) : (s.setArg0 w).voice i = s.voice i := rfl

@[simp] theorem State.voice_raiseFault (s : State) (c : Cause) (w : Word) (i : Slot) :
    (s.raiseFault c w).voice i = s.voice i := rfl

@[simp] theorem State.voice_respond (s : State) (r : BusResponse) (i : Slot) : (s.respond r).voice i = s.voice i := rfl

@[simp] theorem State.voice_takeMove (s : State) (i : Slot) : s.takeMove.voice i = s.voice i := rfl

@[simp] theorem State.voice_resetEngine (s : State) (i : Slot) : s.resetEngine.voice i = Voice.zero := by
  simp [State.voice]

/-- Every voice after an allocation: the selected one is written whole, the others stay (R112). -/
theorem State.voice_allocate (s : State) (p : Nat) (j : Slot) :
    (s.allocate p).voice j = if select s.voices = j
      then allocatedVoice s.params (Config.freePhaseInc s.entropy.unspecified) p (select s.voices)
        s.entropy.jitterValue s.agectr
      else s.voice j := by
  simp only [State.voice, State.voices_allocate]
  exact voiceAt_writeVoice _ _ _ _

/-! ### The slots -/

theorem mem_slots (i : Slot) : i ∈ slots := by revert i; decide

theorem slots_nodup : slots.Nodup := by decide

theorem slots_length : slots.length = Config.numVoices := rfl

/-! ### The draws -/

/-- What `holdRange` lets through: no NaN, and a magnitude of at most the limit, for a limit that is no NaN. -/
theorem holdRange_le (lim x : F32) (h0 : fle fzero lim = true) : fle (fabs (holdRange lim x)) lim = true := by
  unfold holdRange
  split
  · assumption
  · exact h0

/-- A draw in range is taken as it is. -/
theorem holdRange_of_le {lim x : F32} (h : fle (fabs x) lim = true) : holdRange lim x = x := by
  simp [holdRange, h]

/-! ### Faults -/

@[simp] theorem statusOf_fault (c : Cause) : (statusOf c).getLsbD 0 = true := by cases c <;> decide

@[simp] theorem statusOf_cause (c : Cause) : (statusOf c).extractLsb' 4 4 = c.code := by cases c <;> decide

@[simp] theorem State.faulted_raiseFault (s : State) (c : Cause) (w : Word) : (s.raiseFault c w).faulted = true := by
  simp [State.faulted]

@[simp] theorem State.cause_raiseFault (s : State) (c : Cause) (w : Word) : (s.raiseFault c w).cause = c.code := by
  simp [State.cause]

@[simp] theorem State.faulted_resetEngine (s : State) : s.resetEngine.faulted = false := by
  simp [State.faulted]

@[simp] theorem State.faulted_respond (s : State) (r : BusResponse) : (s.respond r).faulted = s.faulted := rfl

@[simp] theorem State.faulted_takeMove (s : State) : s.takeMove.faulted = s.faulted := rfl

/-! ### The count of unspecified results -/

/-- What a `PHINC` does to the record of the entropy source: nothing for a number, one more free value for a NaN. -/
theorem Entropy.afterPhinc_cases (e : Entropy) (f : F32) :
    (isNaN f = false ∧ e.afterPhinc f = e) ∨ (isNaN f = true ∧ (e.afterPhinc f).unspecified = e.unspecified + 1) := by
  cases h : isNaN f with
  | false => exact .inl ⟨rfl, by simp [Entropy.afterPhinc, h]⟩
  | true => exact .inr ⟨rfl, by simp [Entropy.afterPhinc, h]⟩

@[simp] theorem Entropy.afterPhinc_noise (e : Entropy) (f : F32) : (e.afterPhinc f).noise = e.noise := by
  unfold Entropy.afterPhinc; split <;> rfl

@[simp] theorem Entropy.afterPhinc_jitter (e : Entropy) (f : F32) : (e.afterPhinc f).jitter = e.jitter := by
  unfold Entropy.afterPhinc; split <;> rfl

@[simp] theorem Entropy.afterPhinc_noiseDraws (e : Entropy) (f : F32) : (e.afterPhinc f).noiseDraws = e.noiseDraws := by
  unfold Entropy.afterPhinc; split <;> rfl

@[simp] theorem Entropy.afterPhinc_jitterDraws (e : Entropy) (f : F32) :
    (e.afterPhinc f).jitterDraws = e.jitterDraws := by
  unfold Entropy.afterPhinc; split <;> rfl

end Sys2Proof.Machine
end

