-- ==== Sys2Proof/Laws/Memory.lean ====
section
/-! SUPPORT. The output buffer keeps its canonical form: every operation that writes it leaves it with `BLOCK_MAX`
entries (spec R34). -/

namespace Sys2Proof.Machine

@[simp] theorem accumulate_length (acc samples : List F32) : (accumulate acc samples).length = acc.length := by
  induction acc generalizing samples with
  | nil => rfl
  | cons o acc ih =>
    cases samples with
    | nil => rfl
    | cons c samples => simp [accumulate, ih]

theorem mixVoice_acc_length (n : Nat) (m : Mix) (i : Slot) : (mixVoice n m i).acc.length = m.acc.length := by
  unfold mixVoice
  split <;> simp

theorem foldl_mixVoice_acc_length (n : Nat) (l : List Slot) (m : Mix) :
    (l.foldl (mixVoice n) m).acc.length = m.acc.length := by
  induction l generalizing m with
  | nil => rfl
  | cons i l ih => simp only [List.foldl_cons, ih, mixVoice_acc_length]

@[simp] theorem mixBlock_acc_length (n : Nat) (vs : VoiceFile) (e : Entropy) : (mixBlock n vs e).acc.length = n := by
  simp [mixBlock, foldl_mixVoice_acc_length]

/-- A block that fits keeps the buffer's form. -/
theorem renderBlock_memory_wf {s : State} {n : Nat} (h : Memory.wf s.params.blockMax s.out) (hn : n ≤ s.params.blockMax) :
    Memory.wf (s.renderBlock n).params.blockMax (s.renderBlock n).out := by
  simp only [Memory.wf, State.out_renderBlock, State.params_renderBlock, List.length_append, List.length_map,
    mixBlock_acc_length, List.length_drop] at *
  omega

theorem allocate_memory_wf {s : State} (p : Nat) (h : Memory.wf s.params.blockMax s.out) :
    Memory.wf (s.allocate p).params.blockMax (s.allocate p).out := h

/-- Reset gives the buffer its form, whatever it was. -/
theorem resetEngine_memory_wf (s : State) : Memory.wf s.resetEngine.params.blockMax s.resetEngine.out := by
  simp [Memory.wf]

theorem reset_memory_wf : Memory.wf State.reset.params.blockMax State.reset.out := by
  simp [Memory.wf, State.reset, State.resetWith]

end Sys2Proof.Machine
end

