-- ==== Sys2Proof/Laws/PerInstr.lean ====
section
/-! SUPPORT. Statements made per command: the opcode field of its command word (spec R71, R76). -/

namespace Sys2Proof.Laws.OpcodeField

/-- The `OP` value of each row of the opcode map (R76). -/
def opcode : Instr → BitVec 8
  | .noteon _ _ => 0x01#8
  | .render _ => 0x02#8
  | .sineat => 0x03#8
  | .sawat => 0x04#8
  | .phinc => 0x05#8

/-- Bits 31:24 of the command word are the `OP` value of the command's row. -/
def Statement (i : Instr) : Prop := opField (encode i) = opcode i

theorem noteon (pitch velocity : Nat) : Statement (.noteon pitch velocity) := by
  unfold Statement opcode
  apply BitVec.eq_of_toNat_eq
  rw [opField_toNat, encode_noteon_toNat, BitVec.toNat_ofNat]
  omega

theorem render (nframes : Nat) : Statement (.render nframes) := by
  unfold Statement opcode
  apply BitVec.eq_of_toNat_eq
  rw [opField_toNat, encode_render_toNat, BitVec.toNat_ofNat]
  omega

theorem sineat : Statement .sineat := by unfold Statement; decide

theorem sawat : Statement .sawat := by unfold Statement; decide

theorem phinc : Statement .phinc := by unfold Statement; decide

end Sys2Proof.Laws.OpcodeField
end

