-- ==== Sys2Proof/Laws/Render.lean ====
section
/-! SUPPORT. What `EnvStep`, `PluckStep`, a frame, a voice's run and a block do to a voice, said once: the fields they
leave, and the induction that carries a property of a voice through a block. -/

namespace Sys2Proof.Machine

/-! ### EnvStep (R136) -/

theorem envStep_of_attack {v : Voice} (h : v.envelopeState = .attack) : envStep v = attackStep v := by
  simp [envStep, h]

theorem envStep_of_decay {v : Voice} (h : v.envelopeState = .decay) : envStep v = decayStep v := by
  simp [envStep, h]

/-- What one `EnvStep` can do: one of an Attack step, a Decay step that keeps the voice, and one that ends it. -/
theorem envStep_cases (v : Voice) :
    (v.envelopeState = .attack ∧ ∃ st, envStep v =
      { v with envelope := fadd v.envelope (fmul (fsub cOne v.envelope) v.attackCoeff), envelopeState := st }) ∨
    (v.envelopeState = .decay ∧ flt (fmul v.envelope v.decayCoeff) cThrLo = false ∧
      envStep v = { v with envelope := fmul v.envelope v.decayCoeff }) ∨
    (v.envelopeState = .decay ∧ flt (fmul v.envelope v.decayCoeff) cThrLo = true ∧
      envStep v = { v with envelope := fzero, active := false }) := by
  cases h : v.envelopeState with
  | attack => exact .inl ⟨rfl, _, envStep_of_attack h⟩
  | decay =>
    rw [envStep_of_decay h]
    unfold decayStep
    by_cases hp : flt (fmul v.envelope v.decayCoeff) cThrLo = true
    · exact .inr (.inr ⟨rfl, hp, by simp [hp, h]⟩)
    · exact .inr (.inl ⟨rfl, by simpa using hp, by simp [hp, h]⟩)

/-! ### The fields a frame leaves (R155) -/

/-- The fields of a voice that no frame writes are equal in two voices. -/
structure SameTuning (v w : Voice) : Prop where
  phaseInc : w.phaseInc = v.phaseInc
  phase2Inc : w.phase2Inc = v.phase2Inc
  attackCoeff : w.attackCoeff = v.attackCoeff
  decayCoeff : w.decayCoeff = v.decayCoeff
  pluckDecayCoeff : w.pluckDecayCoeff = v.pluckDecayCoeff
  age : w.age = v.age
  detuneRatio : w.detuneRatio = v.detuneRatio

theorem SameTuning.refl (v : Voice) : SameTuning v v := ⟨rfl, rfl, rfl, rfl, rfl, rfl, rfl⟩

theorem SameTuning.trans {u v w : Voice} (h : SameTuning u v) (k : SameTuning v w) : SameTuning u w :=
  ⟨k.1.trans h.1, k.2.trans h.2, k.3.trans h.3, k.4.trans h.4, k.5.trans h.5, k.6.trans h.6, k.7.trans h.7⟩

theorem envStep_sameTuning (v : Voice) : SameTuning v (envStep v) := by
  obtain ⟨-, st, h⟩ | ⟨-, -, h⟩ | ⟨-, -, h⟩ := envStep_cases v <;> rw [h] <;> exact ⟨rfl, rfl, rfl, rfl, rfl, rfl, rfl⟩

theorem pluckVoice_sameTuning (v : Voice) (e : Entropy) : SameTuning v (pluckVoice v e) := by
  unfold pluckVoice
  split <;> exact ⟨rfl, rfl, rfl, rfl, rfl, rfl, rfl⟩

theorem advancePhases_sameTuning (v : Voice) : SameTuning v (advancePhases v) := ⟨rfl, rfl, rfl, rfl, rfl, rfl, rfl⟩

theorem frameVoice_sameTuning (v : Voice) (e : Entropy) : SameTuning v (frameVoice v e) :=
  (pluckVoice_sameTuning v e).trans ((advancePhases_sameTuning _).trans (envStep_sameTuning _))

@[simp] theorem envStep_phase (v : Voice) : (envStep v).phase = v.phase := by
  obtain ⟨-, st, h⟩ | ⟨-, -, h⟩ | ⟨-, -, h⟩ := envStep_cases v <;> rw [h]

@[simp] theorem envStep_phase2 (v : Voice) : (envStep v).phase2 = v.phase2 := by
  obtain ⟨-, st, h⟩ | ⟨-, -, h⟩ | ⟨-, -, h⟩ := envStep_cases v <;> rw [h]

@[simp] theorem envStep_pluckEnvelope (v : Voice) : (envStep v).pluckEnvelope = v.pluckEnvelope := by
  obtain ⟨-, st, h⟩ | ⟨-, -, h⟩ | ⟨-, -, h⟩ := envStep_cases v <;> rw [h]

@[simp] theorem envStep_pluckFilterState (v : Voice) : (envStep v).pluckFilterState = v.pluckFilterState := by
  obtain ⟨-, st, h⟩ | ⟨-, -, h⟩ | ⟨-, -, h⟩ := envStep_cases v <;> rw [h]

/-- `PluckStep` leaves every field but its two (R145, R146). -/
theorem pluckVoice_eq (v : Voice) (e : Entropy) :
    pluckVoice v e = { v with pluckEnvelope := (pluckVoice v e).pluckEnvelope,
                              pluckFilterState := (pluckVoice v e).pluckFilterState } := by
  unfold pluckVoice
  split <;> rfl

@[simp] theorem pluckVoice_phase (v : Voice) (e : Entropy) : (pluckVoice v e).phase = v.phase := by
  rw [pluckVoice_eq]

@[simp] theorem pluckVoice_phase2 (v : Voice) (e : Entropy) : (pluckVoice v e).phase2 = v.phase2 := by
  rw [pluckVoice_eq]

@[simp] theorem pluckVoice_envelope (v : Voice) (e : Entropy) : (pluckVoice v e).envelope = v.envelope := by
  rw [pluckVoice_eq]

@[simp] theorem pluckVoice_envelopeState (v : Voice) (e : Entropy) :
    (pluckVoice v e).envelopeState = v.envelopeState := by
  rw [pluckVoice_eq]

@[simp] theorem pluckVoice_active (v : Voice) (e : Entropy) : (pluckVoice v e).active = v.active := by
  rw [pluckVoice_eq]

/-- Once frozen, `PluckStep` does nothing (R148). -/
theorem pluckVoice_frozen {v : Voice} (h : pluckRuns v = false) (e : Entropy) :
    pluckVoice v e = v ∧ pluckEntropy v e = e ∧ pluckValue v e = fzero := by
  simp [pluckVoice, pluckEntropy, pluckValue, h]

@[simp] theorem frameVoice_phase (v : Voice) (e : Entropy) : (frameVoice v e).phase = v.phase + v.phaseInc := by
  simp [frameVoice, advancePhases, advancePhase, (pluckVoice_sameTuning v e).phaseInc]

@[simp] theorem frameVoice_phase2 (v : Voice) (e : Entropy) : (frameVoice v e).phase2 = v.phase2 + v.phase2Inc := by
  simp [frameVoice, advancePhases, advancePhase, (pluckVoice_sameTuning v e).phase2Inc]

/-! ### A voice's run (R155, R157) -/

@[simp] theorem runVoice_zero (v : Voice) (e : Entropy) : runVoice 0 v e = ⟨[], v, e⟩ := rfl

theorem runVoice_succ_active {v : Voice} {e : Entropy} (h : (frameVoice v e).active = true) (n : Nat) :
    runVoice (n + 1) v e =
      ⟨frameSample v e :: (runVoice n (frameVoice v e) (pluckEntropy v e)).samples,
       (runVoice n (frameVoice v e) (pluckEntropy v e)).voice,
       (runVoice n (frameVoice v e) (pluckEntropy v e)).entropy⟩ := by
  simp [runVoice, h]

theorem runVoice_succ_ended {v : Voice} {e : Entropy} (h : (frameVoice v e).active = false) (n : Nat) :
    runVoice (n + 1) v e = ⟨[frameSample v e], frameVoice v e, pluckEntropy v e⟩ := by
  simp [runVoice, h]

/-- A property of a voice that every frame of an active voice keeps holds after the run. -/
theorem runVoice_keeps {P : Voice → Prop} (hP : ∀ v e, v.active = true → P v → P (frameVoice v e))
    (n : Nat) (v : Voice) (e : Entropy) (ha : v.active = true) (h : P v) : P (runVoice n v e).voice := by
  induction n generalizing v e with
  | zero => exact h
  | succ n ih =>
    cases hf : (frameVoice v e).active with
    | true => rw [runVoice_succ_active hf]; exact ih _ _ hf (hP v e ha h)
    | false => rw [runVoice_succ_ended hf]; exact hP v e ha h

/-- A property of samples that every frame of an active voice with property `P` has, for every sample of the run. -/
theorem runVoice_samples {P : Voice → Prop} {Q : F32 → Prop}
    (hP : ∀ v e, v.active = true → P v → P (frameVoice v e)) (hQ : ∀ v e, v.active = true → P v → Q (frameSample v e))
    (n : Nat) (v : Voice) (e : Entropy) (ha : v.active = true) (h : P v) : ∀ c ∈ (runVoice n v e).samples, Q c := by
  induction n generalizing v e with
  | zero => simp
  | succ n ih =>
    cases hf : (frameVoice v e).active with
    | true =>
      rw [runVoice_succ_active hf]
      intro c hc
      rcases List.mem_cons.1 hc with rfl | hc
      · exact hQ v e ha h
      · exact ih _ _ hf (hP v e ha h) c hc
    | false =>
      rw [runVoice_succ_ended hf]
      intro c hc
      rw [List.mem_singleton.1 hc]
      exact hQ v e ha h

theorem runVoice_sameTuning (n : Nat) (v : Voice) (e : Entropy) : SameTuning v (runVoice n v e).voice := by
  induction n generalizing v e with
  | zero => exact .refl v
  | succ n ih =>
    cases hf : (frameVoice v e).active with
    | true => rw [runVoice_succ_active hf]; exact (frameVoice_sameTuning v e).trans (ih _ _)
    | false => rw [runVoice_succ_ended hf]; exact frameVoice_sameTuning v e

theorem runVoice_samples_length_le (n : Nat) (v : Voice) (e : Entropy) : (runVoice n v e).samples.length ≤ n := by
  induction n generalizing v e with
  | zero => simp
  | succ n ih =>
    cases hf : (frameVoice v e).active with
    | true => rw [runVoice_succ_active hf]; simpa using ih _ _
    | false => rw [runVoice_succ_ended hf]; simp

/-! ### A block (R155, R161) -/

/-- What one voice's part of the block does to the voice file. -/
theorem mixVoice_voices (n : Nat) (m : Mix) (i j : Slot) :
    voiceAt (mixVoice n m i).voices j =
      if i = j ∧ (voiceAt m.voices i).active = true then (runVoice n (voiceAt m.voices i) m.entropy).voice
      else voiceAt m.voices j := by
  unfold mixVoice
  by_cases h : (voiceAt m.voices i).active = true
  · simp only [h, if_true, and_true]
    exact voiceAt_writeVoice _ _ _ _
  · simp [h]

theorem foldl_mixVoice_voices_of_notMem (n : Nat) (l : List Slot) (m : Mix) {j : Slot} (h : j ∉ l) :
    voiceAt (l.foldl (mixVoice n) m).voices j = voiceAt m.voices j := by
  induction l generalizing m with
  | nil => rfl
  | cons i l ih =>
    rw [List.foldl_cons, ih _ (fun hj => h (List.mem_cons_of_mem _ hj)), mixVoice_voices, if_neg]
    rintro ⟨rfl, -⟩
    exact h (List.mem_cons_self ..)

theorem foldl_mixVoice_voices (n : Nat) (l : List Slot) (hl : l.Nodup) (m : Mix) {j : Slot} (h : j ∈ l) :
    ∃ e, voiceAt (l.foldl (mixVoice n) m).voices j =
      if (voiceAt m.voices j).active = true then (runVoice n (voiceAt m.voices j) e).voice
      else voiceAt m.voices j := by
  induction l generalizing m with
  | nil => cases h
  | cons i l ih =>
    rw [List.foldl_cons]
    rw [List.nodup_cons] at hl
    rcases List.mem_cons.1 h with rfl | hj
    · refine ⟨m.entropy, ?_⟩
      rw [foldl_mixVoice_voices_of_notMem n l _ hl.1, mixVoice_voices]
      simp
    · have hne : i ≠ j := by rintro rfl; exact hl.1 hj
      obtain ⟨e, he⟩ := ih hl.2 (mixVoice n m i) hj
      have hv : voiceAt (mixVoice n m i).voices j = voiceAt m.voices j := by
        rw [mixVoice_voices, if_neg (fun c => hne c.1)]
      exact ⟨e, by rw [he, hv]⟩

/-- Every voice after a block: an inactive one stays as it was, an active one ran its frames with some state of the
entropy source (R155). -/
theorem mixBlock_voices (n : Nat) (vs : VoiceFile) (e : Entropy) (j : Slot) :
    ∃ e', voiceAt (mixBlock n vs e).voices j =
      if (voiceAt vs j).active = true then (runVoice n (voiceAt vs j) e').voice else voiceAt vs j :=
  foldl_mixVoice_voices n slots slots_nodup ⟨List.replicate n fzero, vs, e⟩ (mem_slots j)

/-- The same, through the state. -/
theorem State.voice_renderBlock (s : State) (n : Nat) (j : Slot) :
    ∃ e', (s.renderBlock n).voice j =
      if (s.voice j).active = true then (runVoice n (s.voice j) e').voice else s.voice j := by
  obtain ⟨e', he⟩ := mixBlock_voices n s.voices s.entropy j
  exact ⟨e', by rw [State.voice, State.voices_renderBlock, he]; rfl⟩

end Sys2Proof.Machine
end

