-- ==== Sys2Proof/Laws/Step.lean ====
section
/-! SUPPORT. What a command and a step can do, said once: every case of `exec` and of `step`. -/

namespace Sys2Proof.Machine

/-- What a command can do when it answers a next state. -/
theorem exec_cases {i : Instr} {s t : State} (h : exec i s = .next t) :
    (∃ p, i = .noteon p 0 ∧ t = s.setResult noVoiceWord) ∨
    (∃ p v, i = .noteon p v ∧ v ≠ 0 ∧ s.agectr = 0xFFFFFFFF#32 ∧ t = s.raiseFault .agewrap (encode i)) ∨
    (∃ p v, i = .noteon p v ∧ v ≠ 0 ∧ s.agectr ≠ 0xFFFFFFFF#32 ∧ t = s.allocate p) ∨
    (∃ n, i = .render n ∧ s.params.blockMax < n ∧ t = s.raiseFault .length (encode i)) ∨
    (∃ n, i = .render n ∧ n ≤ s.params.blockMax ∧ t = s.renderBlock n) ∨
    (i = .sineat ∧ t = s.setResult (sineAt s.arg0)) ∨
    (i = .sawat ∧ t = s.setResult (sawAt s.arg0)) ∨
    (i = .phinc ∧ t = { s.setResult (phaseIncrementFor (Config.freePhaseInc s.entropy.unspecified) s.arg0) with
      entropy := s.entropy.afterPhinc s.arg0 }) := by
  cases i with
  | noteon p v =>
    simp only [exec, execNoteon] at h
    split at h
    · subst_vars; exact .inl ⟨p, rfl, (Host.Outcome.next.inj h).symm⟩
    · split at h
      · exact .inr (.inl ⟨p, v, rfl, ‹_›, ‹_›, (Host.Outcome.next.inj h).symm⟩)
      · exact .inr (.inr (.inl ⟨p, v, rfl, ‹_›, ‹_›, (Host.Outcome.next.inj h).symm⟩))
  | render n =>
    simp only [exec, execRender] at h
    split at h
    · exact .inr (.inr (.inr (.inl ⟨n, rfl, ‹_›, (Host.Outcome.next.inj h).symm⟩)))
    · exact .inr (.inr (.inr (.inr (.inl ⟨n, rfl, Nat.le_of_not_lt ‹_›, (Host.Outcome.next.inj h).symm⟩))))
  | sineat => exact .inr (.inr (.inr (.inr (.inr (.inl ⟨rfl, (Host.Outcome.next.inj h).symm⟩)))))
  | sawat => exact .inr (.inr (.inr (.inr (.inr (.inr (.inl ⟨rfl, (Host.Outcome.next.inj h).symm⟩))))))
  | phinc => exact .inr (.inr (.inr (.inr (.inr (.inr (.inr ⟨rfl, (Host.Outcome.next.inj h).symm⟩))))))

/-- What the execution of a command word can do (R82). -/
theorem execute_cases {w : Word} {s t : State} (h : execute w s = .next t) :
    (s.faulted = true ∧ t = s) ∨
    (s.faulted = false ∧ (∃ e, decode w = .error e) ∧ t = s.raiseFault .illcmd w) ∨
    (s.faulted = false ∧ ∃ i, decode w = .ok i ∧ exec i s = .next t) := by
  unfold execute at h
  split at h
  · exact .inl ⟨‹_›, (Host.Outcome.next.inj h).symm⟩
  · have hf : s.faulted = false := by simpa using ‹¬ s.faulted = true›
    split at h
    · exact .inr (.inr ⟨hf, _, ‹_›, h⟩)
    · exact .inr (.inl ⟨hf, ⟨_, ‹_›⟩, (Host.Outcome.next.inj h).symm⟩)

/-- What a step can do: idle, an access that changes nothing but the host's side, a write of `ARG0`, reset, or the
execution of a command word. -/
theorem step_cases {s t : State} (h : step s = .next t) :
    (s.moves = [] ∧ t = s) ∨
    (∃ m rest r, s.moves = m :: rest ∧ t = s.takeMove.respond r) ∨
    (∃ v rest, s.moves = .write 4 0x0004#16 v :: rest ∧ t = (s.takeMove.respond .written).setArg0 v) ∨
    (∃ rest, s.moves = .reset :: rest ∧ t = s.takeMove.resetEngine) ∨
    (∃ w rest, s.moves = commandMove w :: rest ∧ execute w (s.takeMove.respond .written) = .next t) := by
  unfold step at h
  cases hm : s.moves with
  | nil => rw [hm] at h; exact .inl ⟨rfl, (Host.Outcome.next.inj h).symm⟩
  | cons m rest =>
    rw [hm] at h
    refine .inr ?_
    cases m with
    | read n a => exact .inl ⟨_, rest, _, rfl, (Host.Outcome.next.inj h).symm⟩
    | reset => exact .inr (.inr (.inl ⟨rest, rfl, (Host.Outcome.next.inj h).symm⟩))
    | write n a v =>
      simp only [hostMove, busWrite] at h
      split at h
      · next hc => obtain ⟨rfl, rfl⟩ := hc; exact .inr (.inr (.inr ⟨v, rest, rfl, h⟩))
      · split at h
        · next hc => obtain ⟨rfl, rfl⟩ := hc; exact .inr (.inl ⟨v, rest, rfl, (Host.Outcome.next.inj h).symm⟩)
        · exact .inl ⟨_, rest, _, rfl, (Host.Outcome.next.inj h).symm⟩

end Sys2Proof.Machine
end

