-- ==== Sys2Proof/Tests/Slice0.lean ====
section
/-! SUPPORT. The model's own tests: ill-formed commands, words written out from the spec's encodings, single steps whose
results are the spec's (95_test_vectors.md and the examples of the rules), and for every statement with hypotheses a
witness that meets them. -/

namespace Sys2Proof.Tests

open Sys2Proof Sys2Proof.Machine

-- One after another: each kernel evaluation below would otherwise hold a thread, with its stack, of its own.
set_option Elab.async false

/-! ### Helpers -/

/-- The state after a command that answers one. -/
def after (o : Outcome) : State :=
  match o with
  | .next t => t
  | _ => State.reset

/-- The reference engine after reset, with answers of the entropy source that are known to come. -/
def known (noise jitter : List F32) : State :=
  { State.reset with entropy := { State.reset.entropy with noise := noise, jitter := jitter } }

/-- The reference engine after reset, with the host's moves to come. -/
def host (moves : List HostMove) : State := { State.reset with moves := moves }

/-- One voice, just allocated by `NOTEON 69, 100`. -/
def oneVoice : State := after (exec (.noteon 69 100) (known [0x3F800000#32, 0xBF800000#32, 0x3F000000#32, 0#32] [0#32]))

/-- All 14 voices active, slot `i` with age `i`: 14 allocations in a row. -/
def fullPool : State :=
  { State.reset with
    voices := Vector.ofFn fun i => allocatedVoice Params.reference 0#32 69 i fzero (BitVec.ofNat 32 i.val)
    agectr := 14 }

/-- A voice in Decay at the threshold: its next frame ends it (R138). -/
def dyingVoice : Voice :=
  { allocatedVoice Params.reference 0#32 69 0 fzero 0#32 with
    envelopeState := .decay, pluckEnvelope := 0x38D08474#32 }

/-- An engine whose one active voice is about to end. -/
def dying : State := { State.reset.setVoice 0 dyingVoice with agectr := 1 }

/-- A faulted engine. -/
def faultedEngine : State := { State.reset with status := 0x00000011#32 }

/-- An engine that has handed out every age. -/
def agesUsedUp : State := { State.reset with agectr := 0xFFFFFFFF#32 }

/-! ### Ill-formed commands are refused by WellFormed -/

theorem test_wellFormed_refuses_pitch_256 : ¬ (Instr.noteon 256 1).WellFormed := by decide

theorem test_wellFormed_refuses_velocity_256 : ¬ (Instr.noteon 1 256).WellFormed := by decide

theorem test_wellFormed_refuses_nframes_65536 : ¬ (Instr.render 65536).WellFormed := by decide

theorem test_wellFormed_accepts_bounds :
    (Instr.noteon 255 255).WellFormed ∧ (Instr.render 65535).WellFormed ∧ Instr.sineat.WellFormed ∧
      Instr.sawat.WellFormed ∧ Instr.phinc.WellFormed := by decide

/-! ### Words from the pattern strings of R72 to R74 -/

theorem test_decode_noteon : decode 0b00000001_00000000_00111100_00000001#32 = .ok (.noteon 60 1) := by rfl

theorem test_decode_render : decode 0b00000010_00000000_00000001_00000011#32 = .ok (.render 259) := by rfl

theorem test_decode_sineat : decodeTableWord 32 0b00000011_00000000_00000000_00000000 = some .sineat := by decide

theorem test_decode_sawat : decodeTableWord 32 0b00000100_00000000_00000000_00000000 = some .sawat := by decide

theorem test_decode_phinc : decodeTableWord 32 0b00000101_00000000_00000000_00000000 = some .phinc := by decide

theorem test_decode_refuses_neighbours :
    decodeTableWord 32 0x06000000 = none ∧ decodeTableWord 32 0x01010000 = none ∧
      decodeTableWord 32 0x02800001 = none ∧ decodeTableWord 32 0x03000001 = none ∧
      decodeTableWord 32 0x05800000 = none := by decide

/-- The assembler of R80 and R81: `NOTEON 69, 100` is `0x01004564`, `BLOCK` is `0x02000080`, `f:440.0` is `0x43DC0000`. -/
theorem test_script_words :
    ScriptItem.moves (.command (.noteon 69 100)) = [.write 4 0x0000#16 0x01004564#32] ∧
      ScriptItem.moves .block = [.write 4 0x0000#16 0x02000080#32] ∧
      WindowReg.addr (.voice 3 .envelope) = 0x01D4#16 ∧ decimalWord false 440 1 = 0x43DC0000#32 := by decide +kernel

/-! ### Single commands -/

/-- 95_test_vectors.md 2.1. -/
theorem test_sineat :
    (after (exec .sineat (State.reset.setArg0 0x12345678#32))).result = 0x3EDC53C1#32 ∧
      (after (exec .sineat (State.reset.setArg0 0xFFFFFFFF#32))).result = 0xBB490FC6#32 := by decide +kernel

/-- 95_test_vectors.md 2.2: the ties on both ends and the sign of the middle. -/
theorem test_sawat :
    (after (exec .sawat (State.reset.setArg0 0x00000040#32))).result = 0xBF800000#32 ∧
      (after (exec .sawat (State.reset.setArg0 0x00000041#32))).result = 0xBF7FFFFF#32 ∧
      (after (exec .sawat (State.reset.setArg0 0x7FFFFFFF#32))).result = 0xB0000000#32 ∧
      (after (exec .sawat (State.reset.setArg0 0xFFFFFFC0#32))).result = 0x3F800000#32 := by decide +kernel

/-- 95_test_vectors.md 2.3: the tie that goes up, a value, and the value below saturation. -/
theorem test_phinc :
    (after (exec .phinc (State.reset.setArg0 0x36AC43FF#32))).result = 0x00000000#32 ∧
      (after (exec .phinc (State.reset.setArg0 0x36AC4400#32))).result = 0x00000001#32 ∧
      (after (exec .phinc (State.reset.setArg0 0x4382D013#32))).result = 0x0184CBB8#32 ∧
      (after (exec .phinc (State.reset.setArg0 0x472C43FF#32))).result = 0xFFFFFE84#32 := by decide +kernel

/-- The example of R112, and the row of 95_test_vectors.md 2.4 with jitter +0.3. -/
theorem test_noteon_tuning :
    (oneVoice.voice 0).phaseInc = 0x028C5D6A#32 ∧ (oneVoice.voice 0).phase2Inc = 0x0519DC56#32 ∧
      oneVoice.agectr = 1 ∧ oneVoice.result = 0 ∧
      ((after (exec (.noteon 69 100) (known [] [0x3E99999A#32]))).voice 0).phase2Inc = 0x051A1645#32 := by
  decide +kernel

/-- T9: with all envelopes equal the oldest voice is stolen. -/
theorem test_noteon_steals_oldest :
    (after (exec (.noteon 60 1) fullPool)).result = 0 ∧
      ((after (exec (.noteon 60 1) fullPool)).voice 0).age = 14 := by decide +kernel

/-- The example of R155. -/
theorem test_render_four_frames :
    let t := after (exec (.render 4) oneVoice)
    t.out.take 4 = [0x3BB84900#32, 0xBA8CA812#32, 0x3AFD9C21#32, 0x3B062518#32] ∧ t.outlen = 4 ∧
      (t.voice 0).phase = 0x0A3175A8#32 ∧ (t.voice 0).phase2 = 0x14677158#32 ∧
      (t.voice 0).envelope = 0x3D9F2DCC#32 ∧ (t.voice 0).pluckEnvelope = 0x3F6FF0B0#32 ∧
      (t.voice 0).pluckFilterState = 0x3D476869#32 := by decide +kernel

/-- R138, R157: the frame that crosses the threshold ends the voice, and the block stays silent after it. -/
theorem test_render_ends_voice :
    let t := after (exec (.render 3) dying)
    (t.voice 0).active = false ∧ (t.voice 0).envelope = 0 ∧ (t.voice 0).phase = 0x028C5D6A#32 ∧
      t.out.drop 1 = List.replicate 127 0 := by decide +kernel

/-- R165. -/
theorem test_pcm16 :
    pcm16 0x3F7FFFFF#32 = 11999 ∧ pcm16 0xB8B02928#32 = -1 ∧ pcm16 0x38AE1049#32 = 0 ∧
      pcmPattern 0xBF000000#32 = 0xE890#16 := by decide +kernel

/-- The two sentences of R158 that its own formula does not bear out (log entry 14). -/
theorem test_softclip_against_its_prose :
    softclip 0x4B800001#32 = 0x3F7FFFFE#32 ∧ softclip 0x3F8023C9#32 = 0x3F0011E3#32 ∧
      softclip 0x3F8023CA#32 = 0x3F0011E2#32 := by decide +kernel

/-- The first step after reset, with the host's word placed, runs it. -/
theorem test_withFetchWord :
    (after (step (State.reset.withFetchWord 32 0x03000000))).responses = [.written] ∧
      (after (step (State.reset.withFetchWord 32 0x06000000))).status = 0x00000011#32 := by decide +kernel

/-! ### Soundness of the helper states -/

theorem reset_voice (i : Slot) : State.reset.voice i = Voice.zero := by
  simp [State.reset, State.resetWith, State.voice, voiceAt]

theorem fullPool_voice (i : Slot) :
    fullPool.voice i = allocatedVoice Params.reference 0#32 69 i fzero (BitVec.ofNat 32 i.val) := by
  simp [fullPool, State.voice, voiceAt]

theorem detuneEntry_ne_zero : ∀ i : Slot, detuneEntry i.val ≠ fzero := by decide +kernel

theorem allocatedVoice_sound (p : Params) (o : Word) (pitch : Nat) (i : Slot) (j : F32) (age : Word) :
    Voice.Sound i (allocatedVoice p o pitch i j age) := by
  have h : (allocatedVoice p o pitch i j age).everAllocated = true := by
    simpa [Voice.everAllocated, allocatedVoice] using detuneEntry_ne_zero i
  refine ⟨fun _ => h, fun _ => rfl, ?_, ?_, ?_, fun _ => ?_, fun _ => ?_, fun _ _ => ?_, nofun, ?_, ?_, fun _ => ?_, ?_⟩
  all_goals first | (rw [if_pos h]; rfl) | (simp only [allocatedVoice]; decide +kernel)

theorem zero_sound (i : Slot) : Voice.Sound i Voice.zero := by
  constructor <;> first | decide +kernel | exact fun h => absurd h (by decide +kernel)

theorem fullPool_sound : fullPool.VoicesSound := by
  intro i
  rw [fullPool_voice]
  exact allocatedVoice_sound _ _ _ _ _ _

theorem fullPool_ages : fullPool.AgesSound := by
  constructor
  · intro i _
    rw [fullPool_voice]
    revert i
    decide +kernel
  · intro i j _ _
    rw [fullPool_voice, fullPool_voice]
    revert i j
    decide +kernel

theorem reset_bufferSound : State.reset.BufferSound := by decide +kernel

theorem reset_faultRecordSound : State.reset.FaultRecordSound := .inl ⟨rfl, rfl⟩

theorem reset_legal : State.reset.params.Legal := by decide +kernel

theorem dying_voice : dying.voice 0 = dyingVoice := by
  simp [dying, State.voice, State.setVoice]

/-! ### Witnesses: states and operands that meet the hypotheses of each statement -/

theorem witness_DecodeAndEncodeAgree :
    (Instr.noteon 255 255).WellFormed ∧ (Instr.render 65535).WellFormed ∧ decode 0x0100FFFF#32 = .ok (.noteon 255 255) :=
  ⟨by decide, by decide, rfl⟩

theorem witness_IllegalWordRaisesIllcmd :
    State.reset.faulted = false ∧ decode 0x06000000#32 = .error .undefinedOp ∧
      decode 0x01800000#32 = .error .nonzeroZeroField ∧ decode 0x03000001#32 = .error .nonzeroZeroField :=
  ⟨rfl, rfl, rfl, rfl⟩

/-- A word that decodes, for the clause on no-operations. -/
theorem witness_IllegalWordRaisesIllcmd_noop : decode 0x02000000#32 = .ok (.render 0) := rfl

theorem witness_VoiceWindowLayout : (0x3F : Nat) < 0x40 := by decide

theorem witness_StepRunsDecodedCommand :
    (host [commandMove 0x02000004#32]).faulted = false ∧
      (host [commandMove 0x02000004#32]).moves = commandMove 0x02000004#32 :: [] ∧
      decode 0x02000004#32 = .ok (.render 4) := ⟨rfl, rfl, rfl⟩

theorem witness_EveryStepAnswers : State.reset.moves = [] := rfl

/-- Each clause: a word, no word at a mapped range's end, a misaligned address, another width. -/
theorem witness_ReadsChangeNothing :
    (host [.read 4 0x000C#16]).moves = .read 4 0x000C#16 :: [] ∧
      (host []).readWord 0x000C#16 = some 0#32 ∧ (host []).readWord 0x0028#16 = none ∧
      (0x000D#16 : Addr).toNat % 4 ≠ 0 ∧ (2 : Nat) ≠ 4 := ⟨rfl, by decide +kernel, by decide +kernel, by decide, by decide⟩

theorem witness_WritesHaveTwoTargets :
    (host [.write 4 0x0004#16 7#32]).moves = .write 4 0x0004#16 7#32 :: [] ∧
      (host [.write 4 0x0000#16 7#32]).moves = .write 4 0x0000#16 7#32 :: [] ∧
      (host [.write 4 0x0008#16 7#32]).moves = .write 4 0x0008#16 7#32 :: [] ∧
      (0x0008#16 : Addr) ≠ 0x0000#16 ∧ (0x0008#16 : Addr) ≠ 0x0004#16 := ⟨rfl, rfl, rfl, by decide, by decide⟩

theorem witness_BusErrorsChangeNothing :
    (host [.read 1 0x0004#16]).moves = .read 1 0x0004#16 :: [] ∧ (1 : Nat) ≠ 4 ∧
      (host []).readWord 0x4200#16 = none ∧ (host []).readWord 0x8200#16 = none ∧
      (host [.write 4 0x41FC#16 0#32]).moves = .write 4 0x41FC#16 0#32 :: [] ∧
      (0x41FC#16 : Addr) ≠ 0x0000#16 ∧ (0x41FC#16 : Addr) ≠ 0x0004#16 :=
  ⟨rfl, by decide, by decide +kernel, by decide +kernel, rfl, by decide, by decide⟩

/-- A legal engine of either extreme, and an address at both ends of each unmapped range of the reference one. -/
theorem witness_HostWindowMap :
    State.reset.params.Legal ∧ (State.resetWith { blockMax := 4096, centsPoints := [] }).params.Legal ∧
      (∀ a ∈ [0x0028, 0x00FC, 0x0480, 0x0FFC, 0x1838, 0x1FFC, 0x4200, 0x7FFC, 0x8200, 0xFFFC],
        State.reset.readWord (BitVec.ofNat 16 a) = none) ∧
      (127 : Nat) < State.reset.params.blockMax := ⟨reset_legal, by decide +kernel, by decide +kernel, by decide⟩

theorem witness_BytesAreLittleEndian : (0xFFFC#16 : Addr).toNat % 4 = 0 ∧ (3 : Nat) < 4 := by decide

theorem witness_WindowShowsWholeEngine :
    State.reset.params.Legal ∧ State.reset.BufferSound ∧ State.reset.FaultRecordSound ∧
      ∀ a : Addr, State.reset.readWord a = State.reset.readWord a :=
  ⟨reset_legal, reset_bufferSound, reset_faultRecordSound, fun _ => rfl⟩

/-- A step of each kind that the statement tells apart. -/
theorem witness_RegisterWriters :
    (∃ t, step (host [.reset]) = .next t) ∧ (∃ t, step (host [.write 4 0x0004#16 9#32]) = .next t) ∧
      (∃ t, step (host [commandMove 0x01004564#32]) = .next t) ∧
      (∃ t, step (host [commandMove 0x02000080#32]) = .next t) :=
  ⟨⟨_, rfl⟩, ⟨_, rfl⟩, ⟨_, rfl⟩, ⟨_, rfl⟩⟩

theorem witness_ResetInputClearsEngine : (host [.reset]).moves = .reset :: [] := rfl

theorem witness_ResetIsSound : Params.Legal { blockMax := 4096, centsPoints := [] } := by decide +kernel

/-- Each clause on an engine that meets it. -/
theorem witness_FaultsArePrecise :
    (host [commandMove 0#32]).faulted = false ∧ decode 0x00000000#32 = .error .undefinedOp ∧
      decode 0x02000081#32 = .ok (.render 129) ∧ State.reset.params.blockMax < 129 ∧
      decode 0x01004501#32 = .ok (.noteon 69 1) ∧ agesUsedUp.faulted = false ∧ agesUsedUp.agectr = 0xFFFFFFFF#32 :=
  ⟨rfl, rfl, rfl, by decide, rfl, rfl, rfl⟩

theorem witness_FaultsHaveThreeCauses :
    (host [commandMove 0x02000081#32]).status = 0#32 ∧ (∃ t, step (host [commandMove 0x02000081#32]) = .next t) ∧
      (∃ t, step (host [commandMove 0x02000080#32]) = .next t) := ⟨rfl, ⟨_, rfl⟩, ⟨_, rfl⟩⟩

theorem witness_FaultedEngineIgnoresCommands :
    faultedEngine.faulted = true ∧ faultedEngine.readWord 0x0024#16 = some 0#32 ∧
      (∃ t, step { faultedEngine with moves := [commandMove 0x03000000#32] } = .next t) ∧
      ({ faultedEngine with moves := [commandMove 0x03000000#32] } : State).moves.head? ≠ some .reset :=
  ⟨rfl, by decide +kernel, ⟨_, rfl⟩, by decide⟩

theorem witness_FaultRecordSoundKept :
    (host [commandMove 0#32]).FaultRecordSound ∧ (∃ t, step (host [commandMove 0#32]) = .next t) :=
  ⟨.inl ⟨rfl, rfl⟩, ⟨_, rfl⟩⟩

theorem witness_NoteonAllocatesVoice :
    (255 : Nat) < 256 ∧ (255 : Nat) ≠ 0 ∧ State.reset.agectr ≠ 0xFFFFFFFF#32 ∧
      isNaN (fmul (fmul cTwo (fmul (freqEntry 255) (detuneEntry 0)))
        (Params.reference.cents2ratio (fadd (fadd cInhBase (fmul cTwo (log2pEntry 255))) fzero))) = false := by
  decide +kernel

theorem witness_SecondaryFrequencyIsNumber : (255 : Nat) < 256 := by decide

theorem witness_NoteonWindowFrame :
    (∃ t, exec (.noteon 69 0) State.reset = .next t) ∧ (∃ t, exec (.noteon 69 1) State.reset = .next t) ∧
      (∃ t, exec (.noteon 69 1) agesUsedUp = .next t) ∧ agesUsedUp.agectr = 0xFFFFFFFF#32 ∧
      (0x0140#16 : Addr).toNat = 0x0100 + 0x40 := ⟨⟨_, rfl⟩, ⟨_, rfl⟩, ⟨_, rfl⟩, rfl, by decide⟩

/-- The first slot, and the last with all others active. -/
theorem witness_SelectLowestInactive :
    (voiceAt State.reset.voices 0).active = false ∧ (∀ j : Slot, j < 0 → (voiceAt State.reset.voices j).active = true) ∧
      (voiceAt (writeVoice fullPool.voices 13 Voice.zero) 13).active = false ∧
      (∀ j : Slot, j < 13 → (voiceAt (writeVoice fullPool.voices 13 Voice.zero) j).active = true) := by decide +kernel

theorem witness_SelectQuietestThenOldest :
    fullPool.VoicesSound ∧ fullPool.AgesSound ∧ (∀ i : Slot, (fullPool.voice i).active = true) ∧
      (13 : Slot) ≠ select fullPool.voices := ⟨fullPool_sound, fullPool_ages, by decide +kernel, by decide +kernel⟩

/-- `k = 0` and `k = 13`. -/
theorem witness_IdlePoolFillsInOrder :
    State.reset.agectr ≠ 0xFFFFFFFF#32 ∧ (∀ i : Slot, (State.reset.voice i).active = true ↔ i.val < 0) ∧
      (∀ i : Slot, ((fullPool.setVoice 13 Voice.zero).voice i).active = true ↔ i.val < 13) := by decide +kernel

theorem witness_VelocityIsTestedForZeroOnly : (1 : Nat) ≠ 0 ∧ (255 : Nat) ≠ 0 := by decide

theorem witness_HighPitchSaturates : (137 : Nat) < 256 ∧ 137 ≤ 137 ∧ (255 : Nat) < 256 := by decide

theorem witness_ConstantTables : (243 : Nat) < 244 ∧ (254 : Nat) < 255 ∧ (1024 : Nat) < 1025 := by decide

theorem sval_of_values : sval 0x42040000#32 = 33 * 2 ^ 149 ∧ sval 0xC1300000#32 = -(11 * 2 ^ 149) ∧
    sval 0x3F000000#32 = 2 ^ 148 ∧ sval 0x472C4400#32 = 44100 * 2 ^ 149 ∧ sval 0x80000000#32 = 0 := by decide +kernel

/-- Both ends of the range. -/
theorem witness_CentsRatioLaw :
    isNaN 0x42040000#32 = false ∧ -11 ≤ fval 0x42040000#32 ∧ fval 0x42040000#32 ≤ 33 ∧
      isNaN 0xC1300000#32 = false ∧ -11 ≤ fval 0xC1300000#32 ∧ fval 0xC1300000#32 ≤ 33 := by
  refine ⟨by decide +kernel, ?_, ?_, by decide +kernel, ?_, ?_⟩ <;>
    simp only [fval, sval_of_values.1, sval_of_values.2.1] <;> norm_num

/-- Both kinds of operand: a number and a NaN. -/
theorem witness_PhincCommand :
    isNaN (State.reset.setArg0 0x43DC0000#32).arg0 = false ∧ isNaN (State.reset.setArg0 0x7FC00000#32).arg0 = true ∧
      expField 0x007FFFFF#32 = 0 := by decide +kernel

theorem witness_QueryWindowFrame :
    (∃ t, exec .sineat State.reset = .next t) ∧ (∃ t, exec .sawat State.reset = .next t) ∧
      (∃ t, exec .phinc State.reset = .next t) ∧ (0x0004#16 : Addr) ≠ 0x0008#16 ∧
      ¬ (0x0008 ≤ (0x000C#16 : Addr).toNat ∧ (0x000C#16 : Addr).toNat < 0x000C) :=
  ⟨⟨_, rfl⟩, ⟨_, rfl⟩, ⟨_, rfl⟩, by decide, by decide⟩

theorem witness_SineLookup : (0x001FFFFF#32 : Word).extractLsb' 21 11 = (0x00000000#32 : Word).extractLsb' 21 11 := by
  decide

theorem witness_SawRamp :
    (0x00000000#32 : Word).toNat ≤ (0xFFFFFFFF#32 : Word).toNat ∧ 0xFFFFFFC0 ≤ (0xFFFFFFC0#32 : Word).toNat := by decide

/-- Each clause: a NaN, a value at or below 0, a positive value, an ordered pair, the saturating value, a nonzero
result. -/
theorem witness_PhaseIncrementExact :
    isNaN 0x7FC00000#32 = true ∧ (isFinite 0x80000000#32 = true ∧ fval 0x80000000#32 ≤ 0) ∧
      (isFinite 0x3F000000#32 = true ∧ 0 < fval 0x3F000000#32) ∧ fle 0xFF800000#32 0x7F800000#32 = true ∧
      (isFinite 0x472C4400#32 = true ∧ 44100 ≤ fval 0x472C4400#32) ∧
      phaseIncrementFor 0#32 0x36AC4400#32 ≠ 0#32 := by
  refine ⟨by decide +kernel, ⟨by decide +kernel, ?_⟩, ⟨by decide +kernel, ?_⟩, by decide +kernel,
    ⟨by decide +kernel, ?_⟩, by decide +kernel⟩ <;>
    simp only [fval, sval_of_values.2.2.1, sval_of_values.2.2.2.1, sval_of_values.2.2.2.2] <;> norm_num

theorem witness_FloatOperationsRoundOnce :
    isFinite 0x3F000000#32 = true ∧ isFinite 0x7F7FFFFF#32 = true ∧ fval 0x3F000000#32 ≠ 0 ∧
      fval 0x80000000#32 + fval 0x80000000#32 = 0 ∧ fval 0x3F000000#32 - fval 0x3F000000#32 = 0 := by
  refine ⟨by decide +kernel, by decide +kernel, ?_, ?_, ?_⟩ <;>
    simp only [fval, sval_of_values.2.2.1, sval_of_values.2.2.2.2] <;> norm_num

theorem witness_SoftclipOddAndBounded : isFinite 0x3F000000#32 = true ∧ |fval 0x3F000000#32| < 2 ^ 24 := by
  refine ⟨by decide +kernel, ?_⟩
  simp only [fval, sval_of_values.2.2.1]
  norm_num

theorem witness_SoftclipIsOneFromTwoTo24 : isFinite 0x4B800001#32 = true := by decide +kernel

theorem witness_SoftclipNeverDecreases :
    isFinite 0x80000000#32 = true ∧ isFinite 0x3F000000#32 = true ∧ fval 0x80000000#32 ≤ fval 0x3F000000#32 := by
  refine ⟨by decide +kernel, by decide +kernel, ?_⟩
  simp only [fval, sval_of_values.2.2.1, sval_of_values.2.2.2.2]
  norm_num

theorem witness_PcmConversion :
    isNaN 0x3F000000#32 = false ∧ isFinite 0x3F000000#32 = true ∧ -1 ≤ fval 0x3F000000#32 ∧ fval 0x3F000000#32 ≤ 1 ∧
      fgt 0x7F800000#32 cOne = true ∧ flt 0xFF800000#32 (fneg cOne) = true := by
  refine ⟨by decide +kernel, by decide +kernel, ?_, ?_, by decide +kernel, by decide +kernel⟩ <;>
    simp only [fval, sval_of_values.2.2.1] <;> norm_num

theorem witness_RenderMatchesPseudocode : Memory.wf State.reset.params.blockMax State.reset.out := by decide +kernel

theorem witness_RenderFrame :
    (128 : Nat) ≤ oneVoice.params.blockMax ∧ Memory.wf oneVoice.params.blockMax oneVoice.out ∧
      (oneVoice.voice 1).active = false := by decide +kernel

/-- A legal block, the longest, and one that faults. -/
theorem witness_RenderKeepsTail :
    Memory.wf State.reset.params.blockMax State.reset.out ∧ (128 : Nat) ≤ State.reset.params.blockMax ∧
      State.reset.params.blockMax < 129 ∧ (129 : Nat) < 2 ^ 16 := by decide +kernel

theorem witness_RenderWindowFrame :
    oneVoice.params.Legal ∧ Memory.wf oneVoice.params.blockMax oneVoice.out ∧ (4 : Nat) ≤ oneVoice.params.blockMax ∧
      (∃ t, exec (.render 4) oneVoice = .next t) ∧ (0x4010#16 : Addr) ≠ 0x0010#16 ∧
      ¬ (0x4000 ≤ (0x4010#16 : Addr).toNat ∧ (0x4010#16 : Addr).toNat < 0x4000 + 4 * 4) ∧
      ¬ (0x8000 ≤ (0x4010#16 : Addr).toNat ∧ (0x4010#16 : Addr).toNat < 0x8000 + 4 * 4) ∧
      (∀ (i : Slot) (o : Nat), (0x4010#16 : Addr).toNat = 0x0100 + 0x40 * i.val + o →
        o ≠ 0x00 ∧ o ≠ 0x04 ∧ o ≠ 0x0C ∧ o ≠ 0x14 ∧ o ≠ 0x20 ∧ o ≠ 0x28) := by
  refine ⟨by decide +kernel, by decide +kernel, by decide +kernel, ⟨_, rfl⟩, by decide, by decide, by decide, ?_⟩
  intro i o h
  have hi : i.val < 14 := i.isLt
  rw [show (0x4010#16 : Addr).toNat = 0x4010 from rfl] at h
  omega

theorem witness_RenderSilentPool :
    (128 : Nat) ≤ State.reset.params.blockMax ∧ Memory.wf State.reset.params.blockMax State.reset.out ∧
      ∀ i : Slot, (State.reset.voice i).active = false := by decide +kernel

/-- A voice that goes on, and one that ends. -/
theorem witness_RenderAdvancesPhases :
    (4 : Nat) ≤ oneVoice.params.blockMax ∧ (∃ t, exec (.render 4) oneVoice = .next t ∧ (t.voice 0).active = true) ∧
      (oneVoice.voice 0).active = true ∧ (dying.voice 0).active = true ∧
      (∃ t, exec (.render 3) dying = .next t ∧ (t.voice 0).active = false) ∧
      (∃ u, exec (.render 0) dying = .next u) ∧ (∃ u, exec (.render 1) dying = .next u) :=
  ⟨by decide +kernel, ⟨_, rfl, by decide +kernel⟩, by decide +kernel, by decide +kernel, ⟨_, rfl, by decide +kernel⟩,
    ⟨_, rfl⟩, ⟨_, rfl⟩⟩

theorem witness_RenderSplits :
    (1 + 3 : Nat) ≤ oneVoice.params.blockMax ∧
      (∃ u v t, exec (.render 1) oneVoice = .next u ∧ exec (.render 3) u = .next v ∧
        exec (.render (1 + 3)) oneVoice = .next t) ∧
      (∀ i j : Slot, (oneVoice.voice i).active = true → pluckRuns (oneVoice.voice i) = true →
        (oneVoice.voice j).active = true → pluckRuns (oneVoice.voice j) = true → i = j) :=
  ⟨by decide +kernel, ⟨_, _, _, rfl, rfl, rfl⟩, by decide +kernel⟩

/-- An entropy source that answers the noise given. -/
def source (noise : List F32) : Entropy := { State.reset.entropy with noise := noise }

/-- Fourteen voices that all draw: 1.0 in their first frame and 0.5 in their second. In one block of two frames the
source answers voice by voice; in two blocks of one frame each has a source of its own. -/
theorem witness_RenderSplits_manyVoices :
    ∃ u v t, exec (.render (1 + 1)) { fullPool with entropy := source (slots.flatMap fun _ => [cOne, 0x3F000000#32]) } =
        .next t ∧
      exec (.render 1) { fullPool with entropy := source (slots.map fun _ => cOne) } = .next u ∧
      exec (.render 1) { u with entropy := source (slots.map fun _ => 0x3F000000#32) } = .next v ∧
      (∀ i : Slot,
        blockDraws { fullPool with entropy := source (slots.flatMap fun _ => [cOne, 0x3F000000#32]) } (1 + 1) i =
          blockDraws { fullPool with entropy := source (slots.map fun _ => cOne) } 1 i ++
            blockDraws { u with entropy := source (slots.map fun _ => 0x3F000000#32) } 1 i) ∧
      (∀ i : Slot,
        blockDraws { fullPool with entropy := source (slots.map fun _ => cOne) } 1 i = [cOne]) :=
  ⟨_, _, _, rfl, rfl, rfl, by decide +kernel, by decide +kernel⟩

theorem witness_PluckFreezes :
    fgt dyingVoice.pluckEnvelope 0x38D1B717#32 = false ∧ (3 : Nat) ≤ dying.params.blockMax ∧
      (∃ t, exec (.render 3) dying = .next t) ∧ fgt (dying.voice 0).pluckEnvelope 0x38D1B717#32 = false ∧
      ({ dyingVoice with pluckEnvelope := 0x38D1B717#32 } : Voice).pluckEnvelope = 0x38D1B717#32 ∧
      ({ dyingVoice with pluckEnvelope := 0x38D1B718#32 } : Voice).pluckEnvelope = 0x38D1B718#32 :=
  ⟨by decide +kernel, by decide +kernel, ⟨_, rfl⟩, by rw [dying_voice]; decide +kernel, rfl, rfl⟩

/-- Attack at both ends of its range, and Decay at both of its: one product ends the voice and one keeps it. -/
theorem witness_EnvelopeSteps :
    (fle cThrLo cThrLo = true ∧ fle cThrLo cThrHi = true ∧ fle cThrHi cThrHi = true) ∧
      (dyingVoice.envelopeState = .decay ∧ dyingVoice.decayCoeff = cDecay ∧ dyingVoice.active = true ∧
        fle cThrLo dyingVoice.envelope = true ∧ fle dyingVoice.envelope cOne = true) ∧
      flt (fmul dyingVoice.envelope cDecay) cThrLo = true ∧ flt (fmul cOne cDecay) cThrLo = false := by decide +kernel

/-- The frames of an allocated voice in an entropy source that never changes. -/
def framesOf (v : Voice) : Nat → Voice
  | 0 => v
  | k + 1 => frameVoice (framesOf v k) State.reset.entropy

theorem witness_DurationsInFrames :
    let v := framesOf (allocatedVoice Params.reference 0#32 69 0 fzero 0#32)
    (∀ k, v (k + 1) = frameVoice (v k) ((fun _ => State.reset.entropy) k)) ∧ (v 0).envelope = cEnvInit ∧
      (v 0).envelopeState = .attack ∧ (v 0).attackCoeff = cAttack ∧ (v 0).pluckEnvelope = cOne ∧
      (v 0).pluckDecayCoeff = cPdecay := ⟨fun _ => rfl, rfl, rfl, rfl, rfl, rfl⟩

/-- A step that activates a voice, one that ends one by `RENDER`, and one by reset. -/
theorem witness_VoiceActivationCauses :
    (∃ t, step (host [commandMove 0x01004564#32]) = .next t ∧
      ((host [commandMove 0x01004564#32]).voice 0).active = false ∧ (t.voice 0).active = true) ∧
    (∃ t, step { dying with moves := [commandMove 0x02000001#32] } = .next t ∧ (t.voice 0).active = false) ∧
    (∃ t, step { dying with moves := [.reset] } = .next t ∧ (t.voice 0).active = false) ∧
    (dying.voice 0).active = true :=
  ⟨⟨_, rfl, by decide +kernel, by decide +kernel⟩, ⟨_, rfl, by decide +kernel⟩, ⟨_, rfl, by decide +kernel⟩,
    by decide +kernel⟩

theorem witness_VoiceFileSoundKept :
    ({ fullPool with moves := [commandMove 0x02000080#32] } : State).VoicesSound ∧
      ∃ t, step { fullPool with moves := [commandMove 0x02000080#32] } = .next t := ⟨fullPool_sound, ⟨_, rfl⟩⟩

theorem witness_AgesDistinctKept :
    ({ fullPool with moves := [commandMove 0x01004564#32] } : State).AgesSound ∧
      ∃ t, step { fullPool with moves := [commandMove 0x01004564#32] } = .next t :=
  ⟨⟨fullPool_ages.issued, fullPool_ages.distinct⟩, ⟨_, rfl⟩⟩

theorem witness_OutputBoundKept :
    ({ fullPool with moves := [commandMove 0x02000080#32] } : State).VoicesSound ∧
      ({ fullPool with moves := [commandMove 0x02000080#32] } : State).OutputSound ∧
      ∃ t, step { fullPool with moves := [commandMove 0x02000080#32] } = .next t := by
  refine ⟨fullPool_sound, ?_, ⟨_, rfl⟩⟩
  intro y hy
  have h0 : y = 0#32 := List.eq_of_mem_replicate hy
  subst h0
  exact ⟨by decide +kernel, by decide +kernel⟩

theorem witness_BufferSoundKept :
    (host [commandMove 0x02000080#32]).BufferSound ∧ ∃ t, step (host [commandMove 0x02000080#32]) = .next t :=
  ⟨by decide +kernel, ⟨_, rfl⟩⟩

/-- Two engines whose entropy sources answer differently, and a step that draws. -/
theorem witness_EvolutionIndependentOfDraws :
    State.SameUpToDraws { known [0x3F800000#32] [] with moves := [commandMove 0x02000080#32] }
        { known [0xBF800000#32] [] with moves := [commandMove 0x02000080#32] } ∧
      (∃ t, step { known [0x3F800000#32] [] with moves := [commandMove 0x02000080#32] } = .next t) ∧
      (∃ t, step { known [0xBF800000#32] [] with moves := [commandMove 0x02000080#32] } = .next t) :=
  ⟨⟨fun _ => ⟨rfl, rfl, rfl, rfl, rfl, rfl, rfl, rfl, rfl, rfl, rfl⟩, rfl, rfl, rfl, rfl, rfl, rfl, rfl⟩,
    ⟨_, rfl⟩, ⟨_, rfl⟩⟩

end Sys2Proof.Tests
end

section
/-! PROOFS. Rounding to nearest as the spec defines it (R11): `roundF` is `IsRN` of the exact result. The exact result
lies between two neighbouring patterns; no value lies strictly between those two, and `roundMag` takes the nearer, of
two equally near the even one. -/

namespace Sys2Proof.Machine

/-! ### The two patterns around a number -/

/-- Exponent step `k` and significand `m`, with the carry `m = 2^24` and, at `k = 0`, the subnormals allowed. -/
theorem magOf_significand {k m : Nat} (hm : m ≤ 2 ^ 24) (hk : 0 < k → 2 ^ 23 ≤ m) :
    magOf (k * 2 ^ 23 + m) = m * 2 ^ k := by
  rcases Nat.lt_or_eq_of_le hm with hlt | rfl
  · rcases Nat.eq_zero_or_pos k with rfl | hpos
    · rw [magOf_of_lt (by omega)]
      omega
    · exact magOf_normal (hk hpos) hlt
  · exact magOf_carry k

/-- The truncated significand has at most 24 bits, and exactly 24 where it is shifted at all. -/
theorem truncatedSignificand_bounds (n : Nat) :
    n / 2 ^ (Nat.log2 n - 23) < 2 ^ 24 ∧ (0 < Nat.log2 n - 23 → 2 ^ 23 ≤ n / 2 ^ (Nat.log2 n - 23)) := by
  have hpos : 0 < 2 ^ (Nat.log2 n - 23) := Nat.two_pow_pos _
  constructor
  · rw [Nat.div_lt_iff_lt_mul hpos, ← Nat.pow_add]
    exact Nat.lt_log2_self.trans_le (Nat.pow_le_pow_right (by omega) (by omega))
  · intro hk
    have hne : n ≠ 0 := by
      rintro rfl
      simp at hk
    rw [Nat.le_div_iff_mul_le hpos, ← Nat.pow_add]
    exact (Nat.pow_le_pow_right (by omega) (by omega)).trans (Nat.log2_self_le hne)

/-- `divRne` is the integer nearest to the quotient, of two equally near the even one. -/
theorem divRne_nearest (n : Nat) {d : Nat} (hd : 0 < d) :
    ((n / d : Nat) : ℚ) ≤ (n : ℚ) / d ∧ (n : ℚ) / d < (n / d : Nat) + 1 ∧
      (2 * ((n : ℚ) / d) = 2 * (n / d : Nat) + 1 → divRne n d % 2 = 0) ∧
      (divRne n d = n / d ∧ 2 * ((n : ℚ) / d) ≤ 2 * (n / d : Nat) + 1 ∨
        divRne n d = n / d + 1 ∧ 2 * (n / d : Nat) + 1 ≤ 2 * ((n : ℚ) / d)) := by
  have hdQ : (0 : ℚ) < d := by exact_mod_cast hd
  have hsplit := Nat.div_add_mod n d
  have hlt := Nat.mod_lt n hd
  rw [← mul_div_assoc, le_div_iff₀ hdQ, div_lt_iff₀ hdQ, div_eq_iff hdQ.ne', div_le_iff₀ hdQ, le_div_iff₀ hdQ]
  norm_cast
  rw [Nat.mul_comm d] at hsplit
  have hodd : (2 * (n / d) + 1) * d = 2 * (n / d * d) + d := by ring
  have hsucc : (n / d + 1) * d = n / d * d + d := by ring
  rw [hodd, hsucc]
  unfold divRne
  split <;> omega

theorem magOf_maxFinite : magOf 0x7F7FFFFF = (2 ^ 24 - 1) * 2 ^ 253 :=
  magOf_normal (k := 253) (m := 2 ^ 24 - 1) (by norm_num) (by norm_num)

theorem magOf_inf : magOf 0x7F800000 = 2 ^ 24 * 2 ^ 253 := magOf_carry 253

theorem magOf_cast_mono {u v : Nat} (h : u ≤ v) : (magOf u : ℚ) ≤ magOf v :=
  Nat.cast_le.2 (magOf_strictMono.monotone h)

/-- No value lies strictly between those of neighbouring patterns. -/
theorem le_or_le_of_abs_eq_magOf {z : ℚ} {v : Nat} (hz : |z| = magOf v) (u : Nat) :
    z ≤ magOf u ∨ (magOf (u + 1) : ℚ) ≤ z := by
  rcases Nat.lt_or_ge u v with h | h
  · have hv : (magOf (u + 1) : ℚ) ≤ magOf v := magOf_cast_mono h
    rcases abs_choice z with h' | h'
    · exact .inr (by linarith)
    · exact .inl (by linarith [(magOf u).cast_nonneg (α := ℚ), (magOf v).cast_nonneg (α := ℚ)])
  · have hv : (magOf v : ℚ) ≤ magOf u := magOf_cast_mono h
    exact .inl (by linarith [le_abs_self z])

/-- `r` is the pattern nearest to `x`, overflow left out of account: `x` lies between the values of the patterns `u` and
`u + 1`, and `r` is the one on its side of the middle; in the middle it is the even one. -/
def NearestPattern (x : ℚ) (r : Nat) : Prop :=
  ∃ u : Nat, (magOf u : ℚ) ≤ x ∧ x < magOf (u + 1) ∧ (2 * x = magOf u + magOf (u + 1) → r % 2 = 0) ∧
    (r = u ∧ 2 * x ≤ magOf u + magOf (u + 1) ∨ r = u + 1 ∧ magOf u + magOf (u + 1) ≤ 2 * x)

/-- `roundMag` is the nearest pattern, held at infinity: its significand is the nearest integer in units of `2^k`. -/
theorem roundMag_nearestPattern (num : Nat) {den : Nat} (hd : 0 < den) :
    ∃ r, NearestPattern ((num : ℚ) / den) r ∧ roundMag num den = min r 0x7F800000 := by
  obtain ⟨hq, hq'⟩ := truncatedSignificand_bounds (num / den)
  rw [roundMag_eq]
  generalize Nat.log2 (num / den) - 23 = k at hq hq' ⊢
  rw [Nat.div_div_eq_div_mul] at hq hq'
  refine ⟨_, ⟨k * 2 ^ 23 + num / (den * 2 ^ k), ?_⟩, rfl⟩
  obtain ⟨hle, hlt, htie, hside⟩ := divRne_nearest num (Nat.mul_pos hd (Nat.two_pow_pos k))
  have hk : (0 : ℚ) < 2 ^ k := by positivity
  have hx : (num : ℚ) / den = (num : ℚ) / (den * 2 ^ k : Nat) * 2 ^ k := by
    push_cast
    field_simp
  have hlo := magOf_significand hq.le hq'
  have hhi := magOf_significand (k := k) (m := num / (den * 2 ^ k) + 1) hq (fun h => by have := hq' h; omega)
  rw [Nat.add_assoc, hlo, hhi, hx]
  generalize (num : ℚ) / (den * 2 ^ k : Nat) = y at *
  generalize num / (den * 2 ^ k) = q at *
  push_cast
  rw [← add_mul, ← mul_assoc, mul_le_mul_iff_left₀ hk, mul_lt_mul_iff_left₀ hk, mul_left_inj' hk.ne',
    mul_le_mul_iff_left₀ hk, mul_le_mul_iff_left₀ hk, ← add_assoc, ← two_mul]
  refine ⟨hle, hlt, fun h => ?_, ?_⟩
  · have := htie h
    omega
  · rcases hside with ⟨hr, h⟩ | ⟨hr, h⟩
    · exact .inl ⟨by rw [hr], h⟩
    · exact .inr ⟨by rw [hr], h⟩

namespace NearestPattern

variable {x z : ℚ} {r v : Nat}

/-- The nearest pattern is as near as any value, of either sign. -/
theorem abs_sub_le (h : NearestPattern x r) (hz : |z| = magOf v) : |(magOf r : ℚ) - x| ≤ |z - x| := by
  obtain ⟨u, hlo, hhi, -, ⟨rfl, hside⟩ | ⟨rfl, hside⟩⟩ := h
  · rw [abs_of_nonpos (by linarith)]
    exact le_abs.2 ((le_or_le_of_abs_eq_magOf hz r).symm.imp (fun _ => by linarith) fun _ => by linarith)
  · rw [abs_of_nonneg (by linarith)]
    exact le_abs.2 ((le_or_le_of_abs_eq_magOf hz u).symm.imp (fun _ => by linarith) fun _ => by linarith)

/-- A nearest pattern with another value as near is even. -/
theorem even_of_tie (h : NearestPattern x r) (hz : |z| = magOf v) (hne : z ≠ magOf r)
    (htie : |z - x| = |(magOf r : ℚ) - x|) : r % 2 = 0 := by
  obtain ⟨u, hlo, hhi, heven, ⟨rfl, hside⟩ | ⟨rfl, hside⟩⟩ := h
  · refine heven (hside.antisymm ?_)
    rw [abs_of_nonpos (by linarith : (magOf r : ℚ) - x ≤ 0)] at htie
    rcases le_or_le_of_abs_eq_magOf hz r with hz | hz
    · rw [abs_of_nonpos (by linarith)] at htie
      exact absurd (by linarith) hne
    · rw [abs_of_nonneg (by linarith)] at htie
      linarith
  · refine heven (le_antisymm ?_ hside)
    rw [abs_of_nonneg (by linarith : 0 ≤ (magOf (u + 1) : ℚ) - x)] at htie
    rcases le_or_le_of_abs_eq_magOf hz u with hz | hz
    · rw [abs_of_nonpos (by linarith)] at htie
      linarith
    · rw [abs_of_nonneg (by linarith)] at htie
      exact absurd (by linarith) hne

/-- Rounding overflows from half a unit above the largest finite value on: that value's pattern is odd. -/
theorem lt_inf_iff (h : NearestPattern x r) : r < 0x7F800000 ↔ x < (2 ^ 25 - 1) * 2 ^ 252 := by
  have hinf : (magOf 0x7F800000 : ℚ) = 2 ^ 24 * 2 ^ 253 := by exact_mod_cast magOf_inf
  have hmax : (magOf 0x7F7FFFFF : ℚ) = (2 ^ 24 - 1) * 2 ^ 253 := by
    rw [magOf_maxFinite]
    norm_num
  obtain ⟨u, hlo, hhi, heven, hside⟩ := h
  rcases lt_trichotomy u 0x7F7FFFFF with hu | rfl | hu
  · exact iff_of_true (by omega) (by linarith [magOf_cast_mono (Nat.succ_le_of_lt hu)])
  · rw [hinf, hmax] at heven hside
    rcases hside with ⟨rfl, hx⟩ | ⟨rfl, hx⟩
    · refine iff_of_true (by norm_num) (lt_of_le_of_ne (by linarith) fun htie => ?_)
      exact absurd (heven (by rw [htie]; norm_num)) (by norm_num)
    · exact iff_of_false (by norm_num) (by linarith)
  · exact iff_of_false (by omega) (by linarith [magOf_cast_mono (Nat.succ_le_of_lt hu)])

end NearestPattern

/-! ### Signs and classes of patterns -/

/-- The factor that a sign bit stands for. -/
def signFactor (neg : Bool) : ℚ := if neg then -1 else 1

@[simp] theorem signFactor_true : signFactor true = -1 := rfl

@[simp] theorem signFactor_false : signFactor false = 1 := rfl

theorem signFactor_ne_zero (neg : Bool) : signFactor neg ≠ 0 := by
  cases neg <;> norm_num

theorem signFactor_mul_self (neg : Bool) : signFactor neg * signFactor neg = 1 := by
  cases neg <;> norm_num

@[simp] theorem abs_signFactor (neg : Bool) : |signFactor neg| = 1 := by
  cases neg <;> norm_num

theorem signFactor_bne (a b : Bool) : signFactor (a != b) = signFactor a * signFactor b := by
  cases a <;> cases b <;> norm_num

theorem signFactor_bne_eq_div (a b : Bool) : signFactor (a != b) = signFactor a / signFactor b := by
  cases a <;> cases b <;> norm_num

theorem signFactor_not (neg : Bool) : signFactor (!neg) = -signFactor neg := by
  cases neg <;> norm_num

theorem signFactor_mul_natAbs (s : Int) : signFactor (decide (s < 0)) * (s.natAbs : ℚ) = s := by
  rcases lt_or_ge s 0 with h | h
  · simp [signFactor, h, abs_of_neg]
  · simp [signFactor, h.not_gt, abs_of_nonneg h]

theorem sval_eq (x : F32) : (sval x : ℚ) = signFactor (signBit x) * mag x := by
  unfold sval signFactor
  split <;> simp

theorem fval_eq (x : F32) : fval x = signFactor (signBit x) * mag x / 2 ^ 149 := by
  rw [fval, sval_eq]

theorem isFinite_iff (x : F32) : isFinite x = true ↔ x.toNat % 2 ^ 31 < 0x7F800000 := by
  unfold isFinite expField
  rw [bne_iff_ne]
  omega

theorem isInf_iff (x : F32) : isInf x = true ↔ x.toNat % 2 ^ 31 = 0x7F800000 := by
  unfold isInf expField fracField
  rw [Bool.and_eq_true, beq_iff_eq, beq_iff_eq]
  omega

theorem isNaN_of_isFinite {x : F32} (h : isFinite x = true) : isNaN x = false :=
  (isNaN_eq_false_iff x).2 ((isFinite_iff x).1 h).le

theorem isInf_of_isFinite {x : F32} (h : isFinite x = true) : isInf x = false := by
  rw [← Bool.not_eq_true, isInf_iff]
  exact ((isFinite_iff x).1 h).ne

theorem ofMag_toNat_mod (neg : Bool) {u : Nat} (hu : u < 2 ^ 31) : (ofMag neg u).toNat % 2 ^ 31 = u := by
  rw [ofMag_toNat neg hu]
  split <;> omega

theorem roundMag_lt (num den : Nat) : roundMag num den < 2 ^ 31 := (roundMag_le_inf num den).trans_lt (by norm_num)

theorem isFinite_roundF (neg : Bool) (num den : Nat) :
    isFinite (roundF neg num den) = true ↔ roundMag num den < 0x7F800000 := by
  rw [isFinite_iff, roundF, ofMag_toNat_mod neg (roundMag_lt num den)]

theorem isInf_roundF (neg : Bool) (num den : Nat) :
    isInf (roundF neg num den) = true ↔ roundMag num den = 0x7F800000 := by
  rw [isInf_iff, roundF, ofMag_toNat_mod neg (roundMag_lt num den)]

theorem toNat_roundF_mod_two (neg : Bool) (num den : Nat) :
    (roundF neg num den).toNat % 2 = roundMag num den % 2 := by
  have h := ofMag_toNat_mod neg (roundMag_lt num den)
  unfold roundF
  omega

/-- Distances between values, in units of `2^-149` and up to a common sign. -/
theorem abs_fval_sub (y : F32) (neg : Bool) (x : ℚ) :
    |fval y - signFactor neg * x / 2 ^ 149| = |signFactor neg * sval y - x| / 2 ^ 149 := by
  have h : signFactor neg * sval y - x = signFactor neg * (sval y - signFactor neg * x) := by
    linear_combination x * signFactor_mul_self neg
  rw [h, abs_mul, abs_signFactor, one_mul, fval, ← sub_div, abs_div, abs_of_pos (by positivity : (0 : ℚ) < 2 ^ 149)]

theorem abs_signFactor_mul_sval (neg : Bool) (x : F32) :
    |signFactor neg * (sval x : ℚ)| = magOf (x.toNat % 2 ^ 31) := by
  rw [sval_eq, abs_mul, abs_mul, abs_signFactor, abs_signFactor, one_mul, one_mul, Nat.abs_cast, mag_eq_magOf]

theorem signFactor_mul_sval_roundF (neg : Bool) (num den : Nat) :
    signFactor neg * (sval (roundF neg num den) : ℚ) = magOf (roundMag num den) := by
  rw [sval_eq, signBit_roundF, mag_roundF, ← mul_assoc, signFactor_mul_self, one_mul]

/-- `roundF` rounds once: it is the `RN` of the exact number whose sign and magnitude it is given (R11). -/
theorem isRN_roundF (neg : Bool) (num : Nat) {den : Nat} (hd : 0 < den) :
    IsRN (signFactor neg * ((num : ℚ) / den) / 2 ^ 149) (roundF neg num den) := by
  obtain ⟨r, hr, hround⟩ := roundMag_nearestPattern num hd
  have hval := signFactor_mul_sval_roundF neg num den
  have hx : (0 : ℚ) ≤ (num : ℚ) / den := by positivity
  generalize (num : ℚ) / den = x at *
  have habs : |signFactor neg * x / 2 ^ 149| = x / 2 ^ 149 := by
    rw [abs_div, abs_mul, abs_signFactor, one_mul, abs_of_nonneg hx, abs_of_pos (by positivity)]
  have hthr : x / 2 ^ 149 < 2 ^ 128 - 2 ^ 103 ↔ r < 0x7F800000 := by
    rw [hr.lt_inf_iff, div_lt_iff₀ (by positivity)]
    norm_num
  unfold IsRN
  rw [habs]
  refine ⟨fun hlt => ?_, fun hge => ?_, fun hneg => ?_, fun hpos => ?_⟩
  · have hfin := hthr.1 hlt
    rw [Nat.min_eq_left hfin.le] at hround
    rw [hround] at hval
    refine ⟨(isFinite_roundF ..).2 (hround ▸ hfin), fun y _ => ?_, fun y _ hne htie => ?_⟩
    · rw [abs_fval_sub, abs_fval_sub, hval]
      exact div_le_div_of_nonneg_right (hr.abs_sub_le (abs_signFactor_mul_sval neg y)) (by positivity)
    · rw [abs_fval_sub, abs_fval_sub, hval, div_left_inj' (by positivity)] at htie
      rw [toNat_roundF_mod_two, hround]
      refine hr.even_of_tie (abs_signFactor_mul_sval neg y) (fun heq => hne ?_) htie
      rw [fval, fval, mul_left_cancel₀ (signFactor_ne_zero neg) (heq.trans hval.symm)]
  · have hinf : 0x7F800000 ≤ r := not_lt.1 fun h => (hthr.2 h).not_ge hge
    rw [isInf_roundF, hround, Nat.min_eq_right hinf]
  · rw [signBit_roundF]
    cases neg with
    | false => exact absurd hneg (by rw [signFactor_false, one_mul, not_lt]; positivity)
    | true => rfl
  · rw [signBit_roundF]
    cases neg with
    | false => rfl
    | true => exact absurd hpos (by rw [signFactor_true, neg_one_mul, neg_div, neg_pos, not_lt]; positivity)

/-! ### The operations on finite operands (R12) -/

/-- The sign of a sum: that of the exact sum, and for a zero sum negative only of two negative zeros. -/
def sumSign (a b : F32) : Bool :=
  if sval a + sval b = 0 then signBit a && signBit b else decide (sval a + sval b < 0)

theorem roundF_zero (neg : Bool) {den : Nat} (hd : 0 < den) : roundF neg 0 den = ofMag neg 0 := by
  have h := roundMag_exact (u := 0) (by norm_num) hd
  rw [magOf_of_lt (by norm_num), Nat.zero_mul] at h
  rw [roundF, h]

theorem fadd_of_isFinite {a b : F32} (ha : isFinite a = true) (hb : isFinite b = true) :
    fadd a b = roundF (sumSign a b) (sval a + sval b).natAbs 1 := by
  simp only [fadd, sumSign, isNaN_of_isFinite, isInf_of_isFinite, ha, hb, Bool.or_self, Bool.false_eq_true, if_false]
  split
  · next h => rw [h, Int.natAbs_zero, roundF_zero _ one_pos]
  · rfl

theorem fmul_of_isFinite {a b : F32} (ha : isFinite a = true) (hb : isFinite b = true) :
    fmul a b = roundF (signBit a != signBit b) (mag a * mag b) (2 ^ 149) := by
  simp only [fmul, isNaN_of_isFinite, isInf_of_isFinite, ha, hb, Bool.or_self, Bool.false_eq_true, if_false]

theorem fdiv_of_isFinite {a b : F32} (ha : isFinite a = true) (hb : isFinite b = true) (h0 : mag b ≠ 0) :
    fdiv a b = roundF (signBit a != signBit b) (mag a * 2 ^ 149) (mag b) := by
  simp only [fdiv, isNaN_of_isFinite, isInf_of_isFinite, ha, hb, h0, Bool.or_self, Bool.false_eq_true, if_false]

theorem fneg_toNat_mod (x : F32) : (fneg x).toNat % 2 ^ 31 = x.toNat % 2 ^ 31 := by
  rw [fneg, BitVec.toNat_xor, Nat.xor_mod_two_pow]
  simp

theorem isFinite_fneg (x : F32) : isFinite (fneg x) = isFinite x := by
  rw [Bool.eq_iff_iff, isFinite_iff, isFinite_iff, fneg_toNat_mod]

theorem signBit_fneg (x : F32) : signBit (fneg x) = !signBit x := by
  rw [fneg, signBit, BitVec.msb_xor, show (0x80000000#32 : F32).msb = true by decide, Bool.xor_true, signBit]

theorem fval_fneg (x : F32) : fval (fneg x) = -fval x := by
  rw [fval_eq, fval_eq, signBit_fneg, signFactor_not, mag_eq_magOf, fneg_toNat_mod, ← mag_eq_magOf]
  ring

theorem fval_ne_zero_iff (x : F32) : fval x ≠ 0 ↔ mag x ≠ 0 := by
  simp [fval_eq, signFactor_ne_zero]

/-- The exact sum in the units of `sval`, with its sign apart. -/
theorem fval_add_fval (a b : F32) :
    fval a + fval b = signFactor (sumSign a b) * (((sval a + sval b).natAbs : ℚ) / (1 : Nat)) / 2 ^ 149 := by
  have h : signFactor (sumSign a b) * ((sval a + sval b).natAbs : ℚ) = (sval a + sval b : Int) := by
    unfold sumSign
    split
    · next h0 => simp [h0]
    · exact signFactor_mul_natAbs _
  rw [Nat.cast_one, div_one, h, fval, fval]
  push_cast
  ring

theorem isRN_fadd {a b : F32} (ha : isFinite a = true) (hb : isFinite b = true) :
    IsRN (fval a + fval b) (fadd a b) := by
  rw [fadd_of_isFinite ha hb, fval_add_fval]
  exact isRN_roundF _ _ one_pos

theorem signBit_fadd_of_zero {a b : F32} (ha : isFinite a = true) (hb : isFinite b = true)
    (h : fval a + fval b = 0) : signBit (fadd a b) = (signBit a && signBit b) := by
  have h0 : sval a + sval b = 0 := by
    rw [fval, fval, ← add_div, div_eq_zero_iff, or_iff_left (by positivity)] at h
    exact_mod_cast h
  rw [fadd_of_isFinite ha hb, signBit_roundF, sumSign, if_pos h0]

theorem isRN_fsub {a b : F32} (ha : isFinite a = true) (hb : isFinite b = true) :
    IsRN (fval a - fval b) (fsub a b) := by
  rw [sub_eq_add_neg, ← fval_fneg]
  exact isRN_fadd ha ((isFinite_fneg b).trans hb)

theorem signBit_fsub_of_zero {a b : F32} (ha : isFinite a = true) (hb : isFinite b = true)
    (h : fval a - fval b = 0) : signBit (fsub a b) = (signBit a && !signBit b) := by
  rw [← signBit_fneg]
  rw [sub_eq_add_neg, ← fval_fneg] at h
  exact signBit_fadd_of_zero ha ((isFinite_fneg b).trans hb) h

theorem isRN_fmul {a b : F32} (ha : isFinite a = true) (hb : isFinite b = true) :
    IsRN (fval a * fval b) (fmul a b) := by
  have h : fval a * fval b =
      signFactor (signBit a != signBit b) * (((mag a * mag b : Nat) : ℚ) / (2 ^ 149 : Nat)) / 2 ^ 149 := by
    rw [fval_eq, fval_eq, signFactor_bne]
    push_cast
    ring
  rw [fmul_of_isFinite ha hb, h]
  exact isRN_roundF _ _ (Nat.two_pow_pos 149)

theorem signBit_fmul {a b : F32} (ha : isFinite a = true) (hb : isFinite b = true) :
    signBit (fmul a b) = (signBit a != signBit b) := by
  rw [fmul_of_isFinite ha hb, signBit_roundF]

theorem isRN_fdiv {a b : F32} (ha : isFinite a = true) (hb : isFinite b = true) (h0 : fval b ≠ 0) :
    IsRN (fval a / fval b) (fdiv a b) := by
  have hmag := (fval_ne_zero_iff b).1 h0
  have h : fval a / fval b =
      signFactor (signBit a != signBit b) * (((mag a * 2 ^ 149 : Nat) : ℚ) / mag b) / 2 ^ 149 := by
    have hb' : (mag b : ℚ) ≠ 0 := by exact_mod_cast hmag
    have hs := signFactor_ne_zero (signBit b)
    rw [fval_eq, fval_eq, signFactor_bne_eq_div]
    push_cast
    field_simp
    norm_num
  rw [fdiv_of_isFinite ha hb hmag, h]
  exact isRN_roundF _ _ (Nat.pos_of_ne_zero hmag)

theorem signBit_fdiv {a b : F32} (ha : isFinite a = true) (hb : isFinite b = true) (h0 : fval b ≠ 0) :
    signBit (fdiv a b) = (signBit a != signBit b) := by
  rw [fdiv_of_isFinite ha hb ((fval_ne_zero_iff b).1 h0), signBit_roundF]

/-- Settles O40: each operation on finite operands is `roundF` of its exact result, and `roundF` rounds once. -/
theorem floatOperationsRoundOnce : Obligations.FloatOperationsRoundOnce := fun _ _ ha hb =>
  ⟨isRN_fadd ha hb, isRN_fsub ha hb, isRN_fmul ha hb, isRN_fdiv ha hb, signBit_fadd_of_zero ha hb,
    signBit_fsub_of_zero ha hb, signBit_fmul ha hb, signBit_fdiv ha hb⟩

end Sys2Proof.Machine
end

section
/-! PROOFS. What one step can do to the engine, said once for every invariant: `StepCase`. -/

namespace Sys2Proof.Machine

/-! ### The word of a command (R71 to R76) -/

theorem requireZero_eq_ok {zero : Bool} {i j : Instr} : requireZero zero i = .ok j ↔ zero = true ∧ i = j := by
  cases zero <;> simp [requireZero]

/-- A word that decodes to a `NOTEON` is the word of it. -/
theorem encode_of_decode_noteon {w : Word} {p v : Nat} (h : decode w = .ok (.noteon p v)) :
    encode (.noteon p v) = w := by
  unfold decode at h
  split at h <;> simp only [requireZero_eq_ok, reduceCtorEq, and_false] at h
  next hop =>
    obtain ⟨hzero, hargs⟩ := h
    obtain ⟨rfl, rfl⟩ := Instr.noteon.inj hargs
    have hz : (zeroFieldNR w).toNat = 0 := by rw [eq_of_beq hzero]; rfl
    rw [opField_toNat] at hop
    rw [zeroFieldNR_toNat] at hz
    apply BitVec.eq_of_toNat_eq
    rw [encode_noteon_toNat, pitchField_toNat, velField_toNat]
    omega

/-- A word that decodes to a `RENDER` is the word of it. -/
theorem encode_of_decode_render {w : Word} {n : Nat} (h : decode w = .ok (.render n)) : encode (.render n) = w := by
  unfold decode at h
  split at h <;> simp only [requireZero_eq_ok, reduceCtorEq, and_false] at h
  next hop =>
    obtain ⟨hzero, hargs⟩ := h
    obtain rfl := Instr.render.inj hargs
    have hz : (zeroFieldNR w).toNat = 0 := by rw [eq_of_beq hzero]; rfl
    rw [opField_toNat] at hop
    rw [zeroFieldNR_toNat] at hz
    apply BitVec.eq_of_toNat_eq
    rw [encode_render_toNat, nframesField_toNat]
    omega

/-! ### The cases of a step -/

/-- The part of the engine that the invariants of Safety speak of is the same in two states: all but `ARG0`, `RESULT`,
the entropy source and the host's side of the bus. -/
structure State.SameCore (s t : State) : Prop where
  voices : t.voices = s.voices
  out : t.out = s.out
  agectr : t.agectr = s.agectr
  status : t.status = s.status
  faultcmd : t.faultcmd = s.faultcmd
  outlen : t.outlen = s.outlen
  params : t.params = s.params

theorem State.SameCore.voice {s t : State} (h : s.SameCore t) (i : Slot) : t.voice i = s.voice i := by
  rw [State.voice, h.voices, State.voice]

/-- The state in which a command that the host wrote runs: its move is taken, and the write is answered. -/
def State.delivered (s : State) : State := s.takeMove.respond .written

/-- The host's next move delivers the word `w`, the engine is not faulted, and `w` decodes to `d`. -/
structure State.Delivers (s : State) (w : Word) (d : Except DecodeError Instr) : Prop where
  head : s.moves.head? = some (commandMove w)
  unfaulted : s.faulted = false
  decodes : decode w = d

/-- What a step from `s` to `t` can be: one that leaves the core of the engine (with who wrote `ARG0` and `RESULT`), the
reset input, or a command word that raises a fault, allocates or renders. -/
inductive StepCase (s t : State) : Prop where
  | quiet (core : s.SameCore t) (arg0 : t.arg0 = s.arg0 ∨ s.moves.head? = some (.write 4 0x0004#16 t.arg0))
      (result : t.result = s.result ∨ ∃ w i, s.Delivers w (.ok i) ∧ ∀ n, i ≠ .render n)
  | reset (head : s.moves.head? = some .reset) (eq : t = s.takeMove.resetEngine)
  | fault {w : Word} {d : Except DecodeError Instr} {c : Cause} (cmd : s.Delivers w d)
      (eq : t = s.delivered.raiseFault c w) (record : t.FaultedBy c)
  | allocate {w : Word} {p v : Nat} (cmd : s.Delivers w (.ok (.noteon p v))) (vel : v ≠ 0)
      (free : s.agectr ≠ 0xFFFFFFFF#32) (eq : t = s.delivered.allocate p)
  | render {w : Word} {n : Nat} (cmd : s.Delivers w (.ok (.render n))) (fits : n ≤ s.params.blockMax)
      (eq : t = s.delivered.renderBlock n)

theorem State.sameCore_respond (s : State) (r : BusResponse) : s.SameCore (s.takeMove.respond r) :=
  ⟨rfl, rfl, rfl, rfl, rfl, rfl, rfl⟩

/-- A command that only answers in `RESULT` is a quiet step. -/
theorem stepCase_of_answer {s : State} {w : Word} {i : Instr} (hcmd : s.Delivers w (.ok i)) (hi : ∀ n, i ≠ .render n)
    (r : Word) : StepCase s (s.delivered.setResult r) :=
  .quiet ⟨rfl, rfl, rfl, rfl, rfl, rfl, rfl⟩ (.inl rfl) (.inr ⟨w, i, hcmd, hi⟩)

/-- So is one that moves the record of the entropy source too. -/
theorem stepCase_of_phinc {s : State} {w : Word} (hcmd : s.Delivers w (.ok .phinc)) (r : Word) (e : Entropy) :
    StepCase s { s.delivered.setResult r with entropy := e } :=
  .quiet ⟨rfl, rfl, rfl, rfl, rfl, rfl, rfl⟩ (.inl rfl) (.inr ⟨w, _, hcmd, nofun⟩)

/-- A command that answers, by the cases of a step. -/
theorem stepCase_of_exec {s t : State} {w : Word} {i : Instr} (hcmd : s.Delivers w (.ok i))
    (h : exec i s.delivered = .next t) : StepCase s t := by
  obtain ⟨p, rfl, rfl⟩ | ⟨p, v, rfl, hv, hlast, rfl⟩ | ⟨p, v, rfl, hv, hfree, rfl⟩ | ⟨n, rfl, hlong, rfl⟩ |
    ⟨n, rfl, hfits, rfl⟩ | ⟨rfl, rfl⟩ | ⟨rfl, rfl⟩ | ⟨rfl, rfl⟩ := exec_cases h
  · exact stepCase_of_answer hcmd nofun _
  · rw [encode_of_decode_noteon hcmd.decodes]
    exact .fault hcmd rfl ⟨rfl, p, v, hcmd.decodes, hv, hlast⟩
  · exact .allocate hcmd hv hfree rfl
  · rw [encode_of_decode_render hcmd.decodes]
    exact .fault hcmd rfl ⟨rfl, n, hcmd.decodes, hlong⟩
  · exact .render hcmd hfits rfl
  · exact stepCase_of_answer hcmd nofun _
  · exact stepCase_of_answer hcmd nofun _
  · exact stepCase_of_phinc hcmd _ _

/-- Every step is one of the cases. -/
theorem stepCase_of_step {s t : State} (h : step s = .next t) : StepCase s t := by
  obtain ⟨-, rfl⟩ | ⟨m, rest, r, -, rfl⟩ | ⟨v, rest, hm, rfl⟩ | ⟨rest, hm, rfl⟩ | ⟨w, rest, hm, hexec⟩ := step_cases h
  · exact .quiet ⟨rfl, rfl, rfl, rfl, rfl, rfl, rfl⟩ (.inl rfl) (.inl rfl)
  · exact .quiet (s.sameCore_respond r) (.inl rfl) (.inl rfl)
  · exact .quiet ⟨rfl, rfl, rfl, rfl, rfl, rfl, rfl⟩ (.inr (by rw [hm]; rfl)) (.inl rfl)
  · exact .reset (by rw [hm]; rfl) rfl
  · have hhead : s.moves.head? = some (commandMove w) := by rw [hm]; rfl
    obtain ⟨-, rfl⟩ | ⟨hf, ⟨e, hd⟩, rfl⟩ | ⟨hf, i, hd, hi⟩ := execute_cases hexec
    · exact .quiet (s.sameCore_respond .written) (.inl rfl) (.inl rfl)
    · exact .fault ⟨hhead, hf, hd⟩ rfl ⟨rfl, e, hd⟩
    · exact stepCase_of_exec ⟨hhead, hf, hd⟩ hi

end Sys2Proof.Machine
end

section
/-! PROOFS. The state after reset, and the invariants of the fault record, the buffer and the ages (10_state.md). -/

namespace Sys2Proof.Machine

/-! ### Reset (R40) -/

@[simp] theorem State.voice_resetWith (p : Params) (i : Slot) : (State.resetWith p).voice i = Voice.zero :=
  voiceAt_replicate Voice.zero i

@[simp] theorem State.voice_reset (i : Slot) : State.reset.voice i = Voice.zero :=
  State.voice_resetWith Params.reference i

/-- Settles O15: every voice is the zero voice, and the rest is what `State.resetWith` writes. -/
theorem resetValues : Obligations.ResetValues := by
  unfold Obligations.ResetValues
  refine ⟨fun i => ?_, rfl, rfl, rfl, rfl, rfl, rfl, List.length_replicate, fun k => ?_, by decide⟩
  · rw [State.voice_reset]
    exact ⟨rfl, rfl, rfl, rfl, rfl, rfl, rfl, rfl, rfl, rfl, rfl, rfl, rfl, rfl⟩
  · simp [State.outEntry, State.reset, State.resetWith, fzero]

/-! ### The fault record (R42, R182, R187) -/

theorem State.FaultedBy.faulted {s : State} {c : Cause} (h : s.FaultedBy c) : s.faulted = true := by
  rw [State.faulted, h.1, statusOf_fault]

/-- A sound record of an engine that is not faulted is empty. -/
theorem State.FaultRecordSound.clear {s : State} (h : s.FaultRecordSound) (hf : s.faulted = false) :
    s.status = 0#32 ∧ s.faultcmd = 0#32 := by
  obtain hclear | ⟨c, hc⟩ := h
  · exact hclear
  · simp [hc.faulted] at hf

theorem State.SameCore.faultedBy {s t : State} (h : s.SameCore t) {c : Cause} (hc : s.FaultedBy c) :
    t.FaultedBy c := by
  unfold State.FaultedBy at hc ⊢
  rwa [h.status, h.faultcmd, h.params, h.agectr]

/-- Settles O21: a step that raises a fault records the word that raised it, any other step of an engine that is not
faulted keeps the empty record, and on a faulted engine nothing the record speaks of moves. -/
theorem faultRecordSoundKept : Obligations.FaultRecordSoundKept := by
  intro s t hs h
  cases stepCase_of_step h with
  | quiet core =>
    obtain ⟨hst, hcmd⟩ | ⟨c, hc⟩ := hs
    · exact .inl ⟨core.status.trans hst, core.faultcmd.trans hcmd⟩
    · exact .inr ⟨c, core.faultedBy hc⟩
  | reset _ eq => subst eq; exact .inl ⟨rfl, rfl⟩
  | fault _ _ record => exact .inr ⟨_, record⟩
  | allocate cmd _ _ eq => subst eq; exact .inl (hs.clear cmd.unfaulted)
  | render cmd _ eq =>
    subst eq
    obtain ⟨hst, hcmd⟩ := hs.clear cmd.unfaulted
    exact .inl ⟨(State.status_renderBlock _ _).trans hst, (State.faultcmd_renderBlock _ _).trans hcmd⟩

/-! ### The registers and the buffer (R30, R34) -/

theorem toNat_frameCountWord_le (n : Nat) : (frameCountWord n).toNat ≤ n := by
  rw [frameCountWord, BitVec.toNat_ofNat]
  exact Nat.mod_le ..

/-- Settles O59: only reset and a block that fits write the buffer or `OUTLEN`. -/
theorem bufferSoundKept : Obligations.BufferSoundKept := by
  intro s t hs h
  cases stepCase_of_step h with
  | quiet core =>
    unfold State.BufferSound
    rwa [core.out, core.params, core.outlen]
  | reset _ eq => subst eq; exact ⟨resetEngine_memory_wf _, Nat.zero_le _⟩
  | fault _ eq _ => subst eq; exact ⟨hs.1, hs.2⟩
  | allocate _ _ _ eq => subst eq; exact ⟨hs.1, hs.2⟩
  | render _ fits eq =>
    subst eq
    exact ⟨renderBlock_memory_wf (s := s.delivered) hs.1 fits, (toNat_frameCountWord_le _).trans fits⟩

/-- The next age is one more as a number where the counter is not at its end (R125). -/
theorem toNat_add_one_of_ne {c : Word} (h : c ≠ 0xFFFFFFFF#32) : (c + 1).toNat = c.toNat + 1 := by
  have hne : c.toNat ≠ 0xFFFFFFFF := fun e => h (BitVec.eq_of_toNat_eq e)
  have hlt := c.isLt
  rw [BitVec.toNat_add, show (1 : Word).toNat = 1 from rfl]
  omega

/-- Settles O14: the cases of a step, each with its writes. -/
theorem registerWriters : Obligations.RegisterWriters := by
  intro s t h
  cases stepCase_of_step h with
  | quiet core arg0 result =>
    refine .inr ⟨arg0, result.imp_right ?_, .inl core.agectr, .inl ⟨core.outlen, core.out⟩⟩
    rintro ⟨w, i, cmd, hi⟩
    exact ⟨w, i, cmd.head, cmd.unfaulted, cmd.decodes, hi⟩
  | reset head eq => subst eq; exact .inl ⟨head, rfl, rfl, rfl, rfl, rfl⟩
  | fault _ eq _ => subst eq; exact .inr ⟨.inl rfl, .inl rfl, .inl rfl, .inl ⟨rfl, rfl⟩⟩
  | allocate cmd vel free eq =>
    subst eq
    exact .inr ⟨.inl rfl, .inr ⟨_, _, cmd.head, cmd.unfaulted, cmd.decodes, nofun⟩,
      .inr ⟨toNat_add_one_of_ne free, _, _, _, cmd.head, cmd.unfaulted, cmd.decodes, vel⟩, .inl ⟨rfl, rfl⟩⟩
  | render cmd fits eq =>
    subst eq
    exact .inr ⟨.inl (State.arg0_renderBlock _ _), .inl (State.result_renderBlock _ _),
      .inl (State.agectr_renderBlock _ _),
      .inr ⟨_, _, cmd.head, cmd.unfaulted, cmd.decodes, fits, State.outlen_renderBlock _ _⟩⟩

/-! ### Ages (R39, R125) -/

theorem everAllocated_zero : Voice.zero.everAllocated = false := by decide

theorem detuneEntry_bne_zero (i : Slot) : (detuneEntry i.val != fzero) = true := by
  revert i
  decide

@[simp] theorem everAllocated_allocatedVoice (p : Params) (o : Word) (pitch : Nat) (i : Slot) (j : F32) (age : Word) :
    (allocatedVoice p o pitch i j age).everAllocated = true := detuneEntry_bne_zero i

theorem SameTuning.everAllocated {v w : Voice} (h : SameTuning v w) : w.everAllocated = v.everAllocated := by
  rw [Voice.everAllocated, h.detuneRatio, Voice.everAllocated]

/-- A block leaves the tuning of every voice, its age with it. -/
theorem State.voice_renderBlock_sameTuning (s : State) (n : Nat) (i : Slot) :
    SameTuning (s.voice i) ((s.renderBlock n).voice i) := by
  obtain ⟨e, he⟩ := s.voice_renderBlock n i
  rw [he]
  split
  · exact runVoice_sameTuning n _ e
  · exact .refl _

/-- Ages that are sound stay so where no voice gets another age or is allocated. -/
theorem State.AgesSound.of_same {s t : State} (hs : s.AgesSound) (hctr : t.agectr = s.agectr)
    (halloc : ∀ i, (t.voice i).everAllocated = (s.voice i).everAllocated)
    (hage : ∀ i, (t.voice i).age = (s.voice i).age) : t.AgesSound where
  issued i hi := by
    rw [hage, hctr]
    exact hs.issued i (halloc i ▸ hi)
  distinct i j hi hj hij := hs.distinct i j (halloc i ▸ hi) (halloc j ▸ hj) (hage i ▸ hage j ▸ hij)

/-- An allocation gives the selected voice the age `AGECTR`, above every age handed out before. -/
theorem State.AgesSound.allocate {s : State} (hs : s.AgesSound) (hfree : s.agectr ≠ 0xFFFFFFFF#32) (p : Nat) :
    (s.allocate p).AgesSound := by
  have hctr := toNat_add_one_of_ne hfree
  have hnew : ∀ i, select s.voices = i → ((s.allocate p).voice i).age = s.agectr := by
    intro i hi
    rw [State.voice_allocate, if_pos hi]
    rfl
  have hold : ∀ i, select s.voices ≠ i → (s.allocate p).voice i = s.voice i := fun i hi => by
    rw [State.voice_allocate, if_neg hi]
  have hlt : ∀ i, select s.voices ≠ i → ((s.allocate p).voice i).everAllocated = true →
      ((s.allocate p).voice i).age.toNat < s.agectr.toNat := by
    intro i hi ha
    rw [hold i hi] at ha ⊢
    exact hs.issued i ha
  constructor
  · intro i ha
    rw [State.agectr_allocate, hctr]
    by_cases hi : select s.voices = i
    · rw [hnew i hi]
      omega
    · have := hlt i hi ha
      omega
  · intro i j hai haj hij
    by_cases hi : select s.voices = i <;> by_cases hj : select s.voices = j
    · exact hi.symm.trans hj
    · have := hlt j hj haj
      rw [← hij, hnew i hi] at this
      omega
    · have := hlt i hi hai
      rw [hij, hnew j hj] at this
      omega
    · rw [hold i hi] at hai hij
      rw [hold j hj] at haj hij
      exact hs.distinct i j hai haj hij

theorem State.agesSound_of_zero {s : State} (h : ∀ i, s.voice i = Voice.zero) : s.AgesSound where
  issued i hi := by simp [h, everAllocated_zero] at hi
  distinct i _ hi := by simp [h, everAllocated_zero] at hi

/-- Settles O57: an allocation hands out a new age, and no other step but reset touches one. -/
theorem agesDistinctKept : Obligations.AgesDistinctKept := by
  intro s t hs h
  cases stepCase_of_step h with
  | quiet core => exact hs.of_same core.agectr (fun i => by rw [core.voice]) (fun i => by rw [core.voice])
  | reset _ eq => subst eq; exact State.agesSound_of_zero (State.voice_resetEngine _)
  | fault _ eq _ => subst eq; exact ⟨hs.issued, hs.distinct⟩
  | allocate _ _ free eq =>
    subst eq
    exact State.AgesSound.allocate (s := s.delivered) ⟨hs.issued, hs.distinct⟩ free _
  | @render _ n _ _ eq =>
    subst eq
    have htuning := s.delivered.voice_renderBlock_sameTuning n
    exact hs.of_same (State.agectr_renderBlock _ _) (fun i => (htuning i).everAllocated) (fun i => (htuning i).age)

end Sys2Proof.Machine
end

section
/-! PROOFS. A voice over a block, frame by frame: how many frames it runs, its phases, and what ends it (R155, R157). -/

namespace Sys2Proof.Machine

/-! ### The envelope of a frame is independent of the draws (R136, R155) -/

/-- Two voices have the same envelope, in the fields that `EnvStep` reads and writes. -/
structure SameEnvelope (v w : Voice) : Prop where
  active : w.active = v.active
  envelope : w.envelope = v.envelope
  envelopeState : w.envelopeState = v.envelopeState
  attackCoeff : w.attackCoeff = v.attackCoeff
  decayCoeff : w.decayCoeff = v.decayCoeff

theorem SameEnvelope.refl (v : Voice) : SameEnvelope v v := ⟨rfl, rfl, rfl, rfl, rfl⟩

theorem SameEnvelope.symm {v w : Voice} (h : SameEnvelope v w) : SameEnvelope w v :=
  ⟨h.1.symm, h.2.symm, h.3.symm, h.4.symm, h.5.symm⟩

theorem SameEnvelope.trans {u v w : Voice} (h : SameEnvelope u v) (k : SameEnvelope v w) : SameEnvelope u w :=
  ⟨k.1.trans h.1, k.2.trans h.2, k.3.trans h.3, k.4.trans h.4, k.5.trans h.5⟩

theorem SameEnvelope.envStep {v w : Voice} (h : SameEnvelope v w) : SameEnvelope (envStep v) (envStep w) := by
  cases hs : v.envelopeState with
  | attack =>
    rw [envStep_of_attack hs, envStep_of_attack (h.envelopeState.trans hs), attackStep, attackStep, h.envelope,
      h.attackCoeff]
    exact ⟨h.active, rfl, rfl, rfl, h.decayCoeff⟩
  | decay =>
    rw [envStep_of_decay hs, envStep_of_decay (h.envelopeState.trans hs), decayStep, decayStep, h.envelope,
      h.decayCoeff]
    split
    · exact ⟨rfl, rfl, h.envelopeState, h.attackCoeff, rfl⟩
    · exact ⟨h.active, rfl, h.envelopeState, h.attackCoeff, rfl⟩

theorem pluckVoice_sameEnvelope (v : Voice) (e : Entropy) : SameEnvelope v (pluckVoice v e) :=
  ⟨pluckVoice_active v e, pluckVoice_envelope v e, pluckVoice_envelopeState v e,
    (pluckVoice_sameTuning v e).attackCoeff, (pluckVoice_sameTuning v e).decayCoeff⟩

theorem advancePhases_sameEnvelope (v : Voice) : SameEnvelope v (advancePhases v) := ⟨rfl, rfl, rfl, rfl, rfl⟩

/-- To the envelope a frame is one `EnvStep`. -/
theorem frameVoice_sameEnvelope_envStep (v : Voice) (e : Entropy) : SameEnvelope (envStep v) (frameVoice v e) := by
  rw [frameVoice]
  exact ((pluckVoice_sameEnvelope v e).trans (advancePhases_sameEnvelope _)).envStep

theorem SameEnvelope.frame {v w : Voice} (h : SameEnvelope v w) (e f : Entropy) :
    SameEnvelope (frameVoice v e) (frameVoice w f) :=
  (frameVoice_sameEnvelope_envStep v e).symm.trans (h.envStep.trans (frameVoice_sameEnvelope_envStep w f))

/-- The runs of two voices with the same envelope have equally many frames, and end with the same envelope, whatever
each draws. -/
theorem SameEnvelope.run {v w : Voice} (h : SameEnvelope v w) (n : Nat) (e f : Entropy) :
    (runVoice n w f).samples.length = (runVoice n v e).samples.length ∧
      SameEnvelope (runVoice n v e).voice (runVoice n w f).voice := by
  induction n generalizing v w e f with
  | zero =>
    rw [runVoice_zero, runVoice_zero]
    exact ⟨rfl, h⟩
  | succ n ih =>
    have hframe := h.frame e f
    cases ha : (frameVoice v e).active with
    | true =>
      rw [runVoice_succ_active ha, runVoice_succ_active (hframe.active.trans ha)]
      obtain ⟨hlen, henv⟩ := ih hframe (pluckEntropy v e) (pluckEntropy w f)
      exact ⟨by rw [List.length_cons, List.length_cons, hlen], henv⟩
    | false =>
      rw [runVoice_succ_ended ha, runVoice_succ_ended (hframe.active.trans ha)]
      exact ⟨by rw [List.length_singleton, List.length_singleton], hframe⟩

/-- The frames that a voice runs in a block of `n`, whatever it draws. -/
theorem runVoice_length_independent (n : Nat) (v : Voice) (e f : Entropy) :
    (runVoice n v f).samples.length = (runVoice n v e).samples.length :=
  ((SameEnvelope.refl v).run n e f).1

theorem runVoice_active_independent (n : Nat) (v : Voice) (e f : Entropy) :
    (runVoice n v f).voice.active = (runVoice n v e).voice.active :=
  ((SameEnvelope.refl v).run n e f).2.active

/-! ### How many frames a voice runs (R157) -/

/-- A block of the frames that the voice runs is the same run. -/
theorem runVoice_own_length (n : Nat) (v : Voice) (e : Entropy) :
    runVoice (runVoice n v e).samples.length v e = runVoice n v e := by
  induction n generalizing v e with
  | zero => rfl
  | succ n ih =>
    cases ha : (frameVoice v e).active with
    | true => rw [runVoice_succ_active ha, List.length_cons, runVoice_succ_active ha, ih]
    | false => rw [runVoice_succ_ended ha, List.length_singleton, runVoice_succ_ended ha]

/-- After fewer frames than it runs an active voice is still active. -/
theorem runVoice_active_of_lt {m n : Nat} {v : Voice} {e : Entropy} (ha : v.active = true)
    (h : m < (runVoice n v e).samples.length) : (runVoice m v e).voice.active = true := by
  induction n generalizing m v e with
  | zero => exact absurd h (Nat.not_lt_zero m)
  | succ n ih =>
    cases m with
    | zero => exact ha
    | succ m =>
      cases hf : (frameVoice v e).active with
      | true =>
        rw [runVoice_succ_active hf, List.length_cons] at h
        rw [runVoice_succ_active hf]
        exact ih hf (Nat.lt_of_succ_lt_succ h)
      | false =>
        rw [runVoice_succ_ended hf, List.length_singleton] at h
        omega

/-- A voice that is active after a block ran all its frames. -/
theorem runVoice_length_of_active {n : Nat} {v : Voice} {e : Entropy} (h : (runVoice n v e).voice.active = true) :
    (runVoice n v e).samples.length = n := by
  induction n generalizing v e with
  | zero => rfl
  | succ n ih =>
    cases hf : (frameVoice v e).active with
    | true =>
      rw [runVoice_succ_active hf] at h ⊢
      rw [List.length_cons, ih h]
    | false =>
      rw [runVoice_succ_ended hf] at h
      simp [hf] at h

/-- What is true of a voice that has just ended (R138, R157). -/
def Voice.EndsInDecay (v : Voice) : Prop := v.active = false → v.envelope = fzero ∧ v.envelopeState = .decay

/-- Only the Decay step that falls below the threshold ends a voice, at envelope `+0.0`. -/
theorem envStep_endsInDecay {v : Voice} (ha : v.active = true) : (envStep v).EndsInDecay := by
  intro h
  obtain ⟨-, st, hv⟩ | ⟨-, -, hv⟩ | ⟨hs, -, hv⟩ := envStep_cases v <;> rw [hv] at h ⊢
  · simp [ha] at h
  · simp [ha] at h
  · exact ⟨rfl, hs⟩

theorem frameVoice_endsInDecay {v : Voice} (ha : v.active = true) (e : Entropy) : (frameVoice v e).EndsInDecay := by
  have hframe := frameVoice_sameEnvelope_envStep v e
  intro h
  obtain ⟨henv, hs⟩ := envStep_endsInDecay ha (hframe.active ▸ h)
  exact ⟨hframe.envelope.trans henv, hframe.envelopeState.trans hs⟩

theorem runVoice_endsInDecay {v : Voice} (ha : v.active = true) (n : Nat) (e : Entropy) :
    (runVoice n v e).voice.EndsInDecay :=
  runVoice_keeps (P := Voice.EndsInDecay) (fun _ e ha _ => frameVoice_endsInDecay ha e) n v e ha
    (fun h => by simp [ha] at h)

/-- A block that ends a voice has a frame. -/
theorem runVoice_length_pos_of_ended {n : Nat} {v : Voice} {e : Entropy} (ha : v.active = true)
    (h : (runVoice n v e).voice.active = false) : 0 < (runVoice n v e).samples.length := by
  rw [Nat.pos_iff_ne_zero]
  intro h0
  rw [← runVoice_own_length, h0, runVoice_zero] at h
  simp [ha] at h

/-! ### The phases (R22, R23, R90) -/

/-- A phase advanced `k` times by its increment, as a number. -/
theorem toNat_add_mul_eq (p inc : Word) (k : Nat) :
    (p + BitVec.ofNat 32 k * inc).toNat = (p.toNat + k * inc.toNat) % 2 ^ 32 := by
  simp [BitVec.toNat_add, BitVec.toNat_mul]

theorem add_mul_advance (p inc : Word) (k : Nat) :
    p + inc + BitVec.ofNat 32 k * inc = p + BitVec.ofNat 32 (k + 1) * inc := by
  rw [BitVec.ofNat_add, show BitVec.ofNat 32 1 = 1 from rfl]
  ring

/-- Each frame of a run advances both phases by their increments. -/
theorem runVoice_phases (n : Nat) (v : Voice) (e : Entropy) :
    (runVoice n v e).voice.phase = v.phase + BitVec.ofNat 32 (runVoice n v e).samples.length * v.phaseInc ∧
      (runVoice n v e).voice.phase2 = v.phase2 + BitVec.ofNat 32 (runVoice n v e).samples.length * v.phase2Inc := by
  induction n generalizing v e with
  | zero => simp
  | succ n ih =>
    cases ha : (frameVoice v e).active with
    | true =>
      obtain ⟨h1, h2⟩ := ih (frameVoice v e) (pluckEntropy v e)
      have htuning := frameVoice_sameTuning v e
      rw [runVoice_succ_active ha, List.length_cons, h1, h2, frameVoice_phase, frameVoice_phase2, htuning.phaseInc,
        htuning.phase2Inc]
      exact ⟨add_mul_advance .., add_mul_advance ..⟩
    | false =>
      rw [runVoice_succ_ended ha]
      simp

/-! ### A block of a legal length (R155) -/

theorem exec_render_of_le {s : State} {n : Nat} (h : n ≤ s.params.blockMax) :
    exec (.render n) s = .next (s.renderBlock n) := by
  rw [exec, execRender, if_neg h.not_gt]

theorem eq_renderBlock_of_exec {s t : State} {n : Nat} (h : n ≤ s.params.blockMax) (ht : exec (.render n) s = .next t) :
    t = s.renderBlock n := by
  rw [exec_render_of_le h] at ht
  exact (Host.Outcome.next.inj ht).symm

/-- An active voice after a block is the voice of its run. -/
theorem State.voice_renderBlock_of_active {s : State} {i : Slot} (ha : (s.voice i).active = true) (n : Nat) :
    ∃ e, (s.renderBlock n).voice i = (runVoice n (s.voice i) e).voice := by
  obtain ⟨e, he⟩ := s.voice_renderBlock n i
  exact ⟨e, by rw [he, if_pos ha]⟩

/-- Settles O50: `k` is the length of the voice's run. -/
theorem renderAdvancesPhases : Obligations.RenderAdvancesPhases := by
  intro s t n i hn ht ha
  obtain rfl := eq_renderBlock_of_exec hn ht
  obtain ⟨e, he⟩ := State.voice_renderBlock_of_active ha n
  have hle := runVoice_samples_length_le n (s.voice i) e
  obtain ⟨hphase, hphase2⟩ := runVoice_phases n (s.voice i) e
  refine ⟨(runVoice n (s.voice i) e).samples.length, hle, ?_, ?_, fun f => runVoice_length_independent n _ e f,
    ?_, ?_, ?_⟩
  · rw [he, hphase, toNat_add_mul_eq]
  · rw [he, hphase2, toNat_add_mul_eq]
  · intro m u hm hu
    obtain rfl := eq_renderBlock_of_exec (hm.le.trans (hle.trans hn)) hu
    obtain ⟨f, hf⟩ := State.voice_renderBlock_of_active ha m
    rw [hf, runVoice_active_independent m _ e f]
    exact runVoice_active_of_lt ha hm
  · rw [he]
    exact runVoice_length_of_active
  · rw [he]
    intro hend
    obtain ⟨henv, hs⟩ := runVoice_endsInDecay ha n e hend
    refine ⟨runVoice_length_pos_of_ended ha hend, henv, hs, fun u hu => ?_⟩
    obtain rfl := eq_renderBlock_of_exec (hle.trans hn) hu
    obtain ⟨f, hf⟩ := State.voice_renderBlock_of_active ha (runVoice n (s.voice i) e).samples.length
    rw [hf, runVoice_active_independent _ _ e f, runVoice_own_length]
    exact hend

/-! ### What makes a voice active and inactive (R21, R38) -/

/-- A block leaves an inactive voice. -/
theorem State.voice_renderBlock_of_inactive {s : State} {i : Slot} (h : (s.voice i).active = false) (n : Nat) :
    (s.renderBlock n).voice i = s.voice i := by
  obtain ⟨e, he⟩ := s.voice_renderBlock n i
  rw [he, if_neg (by simp [h])]

/-- Settles O55: an allocation activates the selected voice alone, and a block ends a voice only by a frame. -/
theorem voiceActivationCauses : Obligations.VoiceActivationCauses := by
  intro s t i h
  cases stepCase_of_step h with
  | quiet core =>
    rw [core.voice]
    exact ⟨fun hi ha => by simp [hi] at ha, fun ha hi => by simp [ha] at hi⟩
  | reset head eq =>
    subst eq
    rw [State.voice_resetEngine]
    exact ⟨nofun, fun _ _ => .inl head⟩
  | fault _ eq _ =>
    subst eq
    simp only [State.voice_raiseFault, State.delivered, State.voice_respond, State.voice_takeMove]
    exact ⟨fun hi ha => by simp [hi] at ha, fun ha hi => by simp [ha] at hi⟩
  | @allocate w p v cmd vel free eq =>
    subst eq
    rw [State.voice_allocate]
    split
    · next hsel =>
      exact ⟨fun _ _ => ⟨w, p, v, cmd.head, cmd.unfaulted, cmd.decodes, vel, free, hsel⟩, nofun⟩
    · exact ⟨fun hi ha => absurd (ha.symm.trans hi) nofun, fun ha hi => absurd (ha.symm.trans hi) nofun⟩
  | @render w n cmd fits eq =>
    subst eq
    constructor
    · intro hi ha
      rw [State.voice_renderBlock_of_inactive (s := s.delivered) hi] at ha
      exact absurd (ha.symm.trans hi) nofun
    · intro ha hi
      obtain ⟨e, he⟩ := State.voice_renderBlock_of_active (s := s.delivered) ha n
      rw [he] at hi ⊢
      have hpos := (runVoice_length_pos_of_ended ha hi).trans_le (runVoice_samples_length_le ..)
      exact .inr ⟨w, n, cmd.head, cmd.unfaulted, cmd.decodes, fits, hpos, (runVoice_endsInDecay ha n e hi).1⟩

end Sys2Proof.Machine
end

section
/-! PROOFS. Bounds of binary32 operations: the order of finite patterns is that of their values, and a rounded result
lies between any two values that its exact result lies between (R11, R12). -/

namespace Sys2Proof.Machine

/-! ### Order and finiteness -/

theorem mag_eq_natAbs_sval (x : F32) : mag x = (sval x).natAbs := by
  unfold sval
  split <;> simp

theorem isFinite_iff_mag (x : F32) : isFinite x = true ↔ mag x < magOf 0x7F800000 := by
  rw [isFinite_iff, mag_eq_magOf, magOf_strictMono.lt_iff_lt]

theorem fval_le_fval (a b : F32) : fval a ≤ fval b ↔ sval a ≤ sval b := by
  rw [fval, fval, div_le_div_iff_of_pos_right (by positivity), Int.cast_le]

theorem fval_lt_fval (a b : F32) : fval a < fval b ↔ sval a < sval b := by
  rw [fval, fval, div_lt_div_iff_of_pos_right (by positivity), Int.cast_lt]

section FiniteOperands

variable {a b : F32} (ha : isFinite a = true) (hb : isFinite b = true)
include ha hb

theorem fle_iff : fle a b = true ↔ fval a ≤ fval b := by
  simp [fle, isNaN_of_isFinite ha, isNaN_of_isFinite hb, fval_le_fval]

theorem flt_iff : flt a b = true ↔ fval a < fval b := by
  simp [flt, isNaN_of_isFinite ha, isNaN_of_isFinite hb, fval_lt_fval]

theorem fgt_iff : fgt a b = true ↔ fval b < fval a := flt_iff hb ha

end FiniteOperands

/-- What lies between two finite patterns is finite. -/
theorem isFinite_of_fle {lo x hi : F32} (hlo : isFinite lo = true) (hhi : isFinite hi = true)
    (h1 : fle lo x = true) (h2 : fle x hi = true) : isFinite x = true := by
  rw [isFinite_iff_mag, mag_eq_natAbs_sval] at hlo hhi ⊢
  simp only [fle, Bool.and_eq_true, decide_eq_true_eq] at h1 h2
  omega

/-- The magnitude of a pattern in the units of `fval`. -/
theorem abs_fval (x : F32) : |fval x| = mag x / 2 ^ 149 := by
  rw [fval_eq, abs_div, abs_mul, abs_signFactor, one_mul, Nat.abs_cast, abs_of_pos (by positivity)]

theorem abs_fval_lt_of_isFinite {x : F32} (h : isFinite x = true) : |fval x| < 2 ^ 128 - 2 ^ 103 := by
  have hle : x.toNat % 2 ^ 31 ≤ 0x7F7FFFFF := Nat.le_of_lt_succ ((isFinite_iff x).1 h)
  have hmag : (mag x : ℚ) ≤ (2 ^ 24 - 1) * 2 ^ 253 := by
    rw [mag_eq_magOf]
    refine (magOf_cast_mono hle).trans_eq ?_
    rw [magOf_maxFinite]
    norm_num
  rw [abs_fval, div_lt_iff₀ (by positivity)]
  refine hmag.trans_lt ?_
  norm_num

@[simp] theorem fval_fzero : fval fzero = 0 := by
  rw [fval, show sval fzero = 0 by decide, Int.cast_zero, zero_div]

@[simp] theorem isFinite_fzero : isFinite fzero = true := by decide

/-! ### The absolute value -/

theorem fabs_toNat (x : F32) : (fabs x).toNat = x.toNat % 2 ^ 31 := by
  rw [fabs, BitVec.toNat_and]
  exact Nat.and_two_pow_sub_one_eq_mod _ 31

theorem isFinite_fabs (x : F32) : isFinite (fabs x) = isFinite x := by
  rw [Bool.eq_iff_iff, isFinite_iff, isFinite_iff, fabs_toNat, Nat.mod_mod]

theorem signBit_fabs (x : F32) : signBit (fabs x) = false := by
  rw [signBit, BitVec.msb_eq_decide, fabs_toNat, decide_eq_false_iff_not]
  omega

theorem mag_fabs (x : F32) : mag (fabs x) = mag x := by
  rw [mag_eq_magOf, fabs_toNat, Nat.mod_mod, ← mag_eq_magOf]

theorem fval_fabs (x : F32) : fval (fabs x) = |fval x| := by
  rw [abs_fval, fval_eq, signBit_fabs, signFactor_false, one_mul, mag_fabs]

/-- `|x| <= lim` of patterns, for a finite limit. -/
theorem fle_fabs_iff {x lim : F32} (hlim : isFinite lim = true) :
    fle (fabs x) lim = true ↔ isFinite x = true ∧ |fval x| ≤ fval lim := by
  constructor
  · intro h
    have hnan : isNaN (fabs x) = false := by
      simp only [fle, Bool.and_eq_true, Bool.not_eq_true'] at h
      exact h.1.1
    have h0 : fle fzero (fabs x) = true := by
      have hs : 0 ≤ sval (fabs x) := by simp [sval, signBit_fabs]
      simp [fle, isNaN_of_isFinite isFinite_fzero, hnan, show sval fzero = 0 by decide, hs]
    have hfin := isFinite_of_fle isFinite_fzero hlim h0 h
    rw [fle_iff hfin hlim, fval_fabs] at h
    exact ⟨isFinite_fabs x ▸ hfin, h⟩
  · rintro ⟨hfin, h⟩
    rwa [fle_iff ((isFinite_fabs x).trans hfin) hlim, fval_fabs]

/-! ### Rounding keeps bounds -/

namespace IsRN

variable {x : ℚ} {r : F32}

/-- The rounding of a number between two values lies between them. -/
theorem bounds (h : IsRN x r) {lo hi : F32} (hlo : isFinite lo = true) (hhi : isFinite hi = true)
    (h1 : fval lo ≤ x) (h2 : x ≤ fval hi) : isFinite r = true ∧ fval lo ≤ fval r ∧ fval r ≤ fval hi := by
  have hx : |x| < 2 ^ 128 - 2 ^ 103 := by
    have hlo' := abs_lt.1 (abs_fval_lt_of_isFinite hlo)
    have hhi' := abs_lt.1 (abs_fval_lt_of_isFinite hhi)
    exact abs_lt.2 ⟨by linarith, by linarith⟩
  obtain ⟨hfin, hnear, -⟩ := h.1 hx
  have hnlo := hnear lo hlo
  have hnhi := hnear hi hhi
  rw [abs_of_nonpos (by linarith : fval lo - x ≤ 0)] at hnlo
  rw [abs_of_nonneg (by linarith : 0 ≤ fval hi - x)] at hnhi
  obtain ⟨hlo1, -⟩ := abs_le.1 hnlo
  obtain ⟨-, hhi2⟩ := abs_le.1 hnhi
  exact ⟨hfin, by linarith, by linarith⟩

/-- Rounding multiplies a number by at most 2: it moves it by at most its own size, since `+0.0` is a value too. -/
theorem exists_factor (h : IsRN x r) (hx : |x| < 2 ^ 128 - 2 ^ 103) :
    isFinite r = true ∧ ∃ a, 0 ≤ a ∧ a ≤ 2 ∧ fval r = a * x := by
  obtain ⟨hfin, hnear, -⟩ := h.1 hx
  have h0 := hnear fzero isFinite_fzero
  rw [fval_fzero, zero_sub, abs_neg] at h0
  refine ⟨hfin, ?_⟩
  rcases eq_or_ne x 0 with rfl | hne
  · exact ⟨0, le_rfl, zero_le_two, by simpa using h0⟩
  · have hfactor : |fval r / x - 1| ≤ 1 := by rwa [div_sub_one hne, abs_div, div_le_one (abs_pos.2 hne)]
    obtain ⟨hl, hu⟩ := abs_le.1 hfactor
    exact ⟨fval r / x, by linarith, by linarith, (div_mul_cancel₀ _ hne).symm⟩

end IsRN

/-- A product with a coefficient in `[0, 1]` lies between `0` and the other factor. -/
theorem fmul_bounds_of_unit {a c : F32} (ha : isFinite a = true) (hc : isFinite c = true) (ha0 : 0 ≤ fval a)
    (hc0 : 0 ≤ fval c) (hc1 : fval c ≤ 1) :
    isFinite (fmul a c) = true ∧ 0 ≤ fval (fmul a c) ∧ fval (fmul a c) ≤ fval a := by
  have h := (isRN_fmul ha hc).bounds isFinite_fzero ha (by rw [fval_fzero]; positivity) (mul_le_of_le_one_right ha0 hc1)
  rwa [fval_fzero] at h

/-! ### The constants (R33) -/

/-- The value of a pattern whose exact value in units of `2^-149` is known. -/
theorem fval_of_sval {x : F32} {n : Int} (h : sval x = n) : fval x = n / 2 ^ 149 := by
  rw [fval, h]

theorem isFinite_cOne : isFinite cOne = true := by decide

theorem fval_cOne : fval cOne = 1 := by
  rw [fval_of_sval (n := 2 ^ 149) (by decide)]
  norm_num

theorem isFinite_cThrLo : isFinite cThrLo = true := by decide

theorem fval_cThrLo : fval cThrLo = 0xD1B717 / 2 ^ 37 := by
  rw [fval_of_sval (n := 0xD1B717 * 2 ^ 112) (by decide)]
  norm_num

theorem isFinite_cThrHi : isFinite cThrHi = true := by decide

theorem fval_cThrHi : fval cThrHi = 0xFD70A4 / 2 ^ 24 := by
  rw [fval_of_sval (n := 0xFD70A4 * 2 ^ 125) (by decide)]
  norm_num

theorem isFinite_cAttack : isFinite cAttack = true := by decide

theorem fval_cAttack : fval cAttack = 0xA3D70A / 2 ^ 29 := by
  rw [fval_of_sval (n := 0xA3D70A * 2 ^ 120) (by decide)]
  norm_num

theorem isFinite_cDecay : isFinite cDecay = true := by decide

theorem fval_cDecay : fval cDecay = 0xFFFE24 / 2 ^ 24 := by
  rw [fval_of_sval (n := 0xFFFE24 * 2 ^ 125) (by decide)]
  norm_num

theorem isFinite_cPdecay : isFinite cPdecay = true := by decide

theorem fval_cPdecay : fval cPdecay = 0xFBE311 / 2 ^ 24 := by
  rw [fval_of_sval (n := 0xFBE311 * 2 ^ 125) (by decide)]
  norm_num

theorem isFinite_cAlpha : isFinite cAlpha = true := by decide

theorem fval_cAlpha : fval cAlpha = 0xA0ECFB / 2 ^ 26 := by
  rw [fval_of_sval (n := 0xA0ECFB * 2 ^ 123) (by decide)]
  norm_num

end Sys2Proof.Machine
end

section
/-! PROOFS. The voice file stays within its bounds (R39, R140, R150): one step of the envelope and of the transient on
their values, then `Voice.Sound` through a frame, a block and a step. -/

namespace Sys2Proof.Machine

/-! ### One Attack step (R137) -/

/-- The envelope after an Attack step from `e` (R136). -/
def attackEnvelope (e : F32) : F32 := fadd e (fmul (fsub cOne e) cAttack)

/-- An Attack step from an envelope in `[lo, hi]`: where `d` bounds the distance from `lo` to 1, `m` bounds the part of
it that is added, and `u` bounds that added to `hi`, the new envelope is at most `u`. It is never below the old one. -/
theorem attackEnvelope_bounds {e d m u : F32} {lo hi : ℚ} (he : isFinite e = true) (hd : isFinite d = true)
    (hm : isFinite m = true) (hu : isFinite u = true) (hlo : lo ≤ fval e) (hhi : fval e ≤ hi) (hone : fval e ≤ 1)
    (hlod : 1 - lo ≤ fval d) (hdm : fval d * fval cAttack ≤ fval m) (hmu : hi + fval m ≤ fval u) :
    isFinite (attackEnvelope e) = true ∧ fval e ≤ fval (attackEnvelope e) ∧ fval (attackEnvelope e) ≤ fval u := by
  have hA : 0 ≤ fval cAttack := by rw [fval_cAttack]; norm_num
  obtain ⟨hdist, hdist0, hdistd⟩ := (isRN_fsub isFinite_cOne he).bounds isFinite_fzero hd
    (by rw [fval_fzero, fval_cOne]; linarith) (by rw [fval_cOne]; linarith)
  rw [fval_fzero] at hdist0
  obtain ⟨hpart, hpart0, hpartm⟩ := (isRN_fmul hdist isFinite_cAttack).bounds isFinite_fzero hm
    (by rw [fval_fzero]; positivity) ((mul_le_mul_of_nonneg_right hdistd hA).trans hdm)
  rw [fval_fzero] at hpart0
  exact (isRN_fadd he hpart).bounds he hu (by linarith) (by linarith)

/-- A bound on every envelope that an Attack step reaches, just below 0.9903 (R140). -/
def attackTop : F32 := 0x3F7D8400#32

theorem fval_attackTop : fval attackTop = 0xFD8400 / 2 ^ 24 := by
  rw [fval_of_sval (n := 0xFD8400 * 2 ^ 125) (by decide)]
  norm_num

/-- No Attack step goes above `attackTop`. The bound needs three ranges: near `C_THR_HI` the distance to 1 is small, and
below 13/16 a whole step does not reach it. -/
theorem attackEnvelope_le {e : F32} (he : isFinite e = true) (hlo : 0 ≤ fval e) (hhi : fval e ≤ fval cThrHi) :
    isFinite (attackEnvelope e) = true ∧ fval e ≤ fval (attackEnvelope e) ∧
      fval (attackEnvelope e) ≤ fval attackTop := by
  have hu : isFinite attackTop = true := by decide
  have hone : fval e ≤ 1 := hhi.trans (by rw [fval_cThrHi]; norm_num)
  rcases le_total (fval e) (13 / 16) with h1 | h1
  · refine attackEnvelope_bounds (d := cOne) (m := cAttack) he isFinite_cOne isFinite_cAttack hu hlo h1 hone ?_ ?_ ?_
    · rw [fval_cOne, sub_zero]
    · rw [fval_cOne, one_mul]
    · rw [fval_cAttack, fval_attackTop]
      norm_num
  rcases le_total (fval e) (1009 / 1024) with h2 | h2
  · have hd : fval 0x3E400000#32 = 3 / 16 := by
      rw [fval_of_sval (n := 3 * 2 ^ 145) (by decide)]
      norm_num
    have hm : fval 0x3B800000#32 = 1 / 256 := by
      rw [fval_of_sval (n := 2 ^ 141) (by decide)]
      norm_num
    refine attackEnvelope_bounds (d := 0x3E400000#32) (m := 0x3B800000#32) he (by decide) (by decide) hu h1 h2
      hone ?_ ?_ ?_ <;> simp only [hd, hm, fval_attackTop, fval_cAttack] <;> norm_num
  · have hd : fval 0x3C700000#32 = 15 / 1024 := by
      rw [fval_of_sval (n := 15 * 2 ^ 139) (by decide)]
      norm_num
    have hm : fval 0x399A0000#32 = 77 / 2 ^ 18 := by
      rw [fval_of_sval (n := 77 * 2 ^ 131) (by decide)]
      norm_num
    refine attackEnvelope_bounds (d := 0x3C700000#32) (m := 0x399A0000#32) he (by decide) (by decide) hu h2 hhi
      hone ?_ ?_ ?_ <;> simp only [hd, hm, fval_attackTop, fval_cAttack, fval_cThrHi] <;> norm_num

/-! ### One step of the transient (R146, R150) -/

/-- The one-pole filter moves its state towards the draw by at most `4 * C_ALPHA` of the distance, that is never past it.
So both in `[-1, 1]` keep it there. -/
theorem filtered_bounds {f n : F32} (hf : isFinite f = true) (hn : isFinite n = true) (hf1 : |fval f| ≤ 1)
    (hn1 : |fval n| ≤ 1) : isFinite (filtered f n) = true ∧ |fval (filtered f n)| ≤ 1 := by
  obtain ⟨hfl, hfu⟩ := abs_le.1 hf1
  obtain ⟨hnl, hnu⟩ := abs_le.1 hn1
  have hα0 : 0 ≤ fval cAlpha := by rw [fval_cAlpha]; norm_num
  have hα1 : fval cAlpha ≤ 1 / 4 := by rw [fval_cAlpha]; norm_num
  have hdist : |fval n - fval f| ≤ 2 := abs_le.2 ⟨by linarith, by linarith⟩
  obtain ⟨hd, a, ha0, ha2, hda⟩ := (isRN_fsub hn hf).exists_factor (hdist.trans_lt (by norm_num))
  have hpart : |fval cAlpha * fval (fsub n f)| ≤ 1 := by
    rw [hda, abs_mul, abs_mul, abs_of_nonneg hα0, abs_of_nonneg ha0]
    calc fval cAlpha * (a * |fval n - fval f|) ≤ 1 / 4 * (2 * 2) := by gcongr
      _ = 1 := by norm_num
  obtain ⟨hm, b, hb0, hb2, hmb⟩ := (isRN_fmul isFinite_cAlpha hd).exists_factor (hpart.trans_lt (by norm_num))
  have hsum := (isRN_fadd hf hm).bounds (lo := fneg cOne) (hi := cOne) (by decide) isFinite_cOne
  rw [fval_fneg, fval_cOne, hmb, hda] at hsum
  have hθ0 : 0 ≤ b * fval cAlpha * a := by positivity
  have hθ1 : 0 ≤ 1 - b * fval cAlpha * a := by
    have : b * fval cAlpha * a ≤ 2 * (1 / 4) * 2 := by gcongr
    linarith
  have hlow : 0 ≤ (1 - b * fval cAlpha * a) * (1 + fval f) + b * fval cAlpha * a * (1 + fval n) :=
    add_nonneg (mul_nonneg hθ1 (by linarith)) (mul_nonneg hθ0 (by linarith))
  have hhigh : 0 ≤ (1 - b * fval cAlpha * a) * (1 - fval f) + b * fval cAlpha * a * (1 - fval n) :=
    add_nonneg (mul_nonneg hθ1 (by linarith)) (mul_nonneg hθ0 (by linarith))
  obtain ⟨hfin, hl, hr⟩ := hsum (by linear_combination hlow) (by linear_combination hhigh)
  exact ⟨hfin, abs_le.2 ⟨hl, hr⟩⟩

/-- The filter state after a draw, as patterns. -/
theorem filtered_le {f n : F32} (hf : fle (fabs f) cOne = true) (hn : fle (fabs n) cOne = true) :
    fle (fabs (filtered f n)) cOne = true := by
  rw [fle_fabs_iff isFinite_cOne, fval_cOne] at *
  exact filtered_bounds hf.1 hn.1 hf.2 hn.2

theorem noiseValue_le (e : Entropy) : fle (fabs e.noiseValue) cOne = true := holdRange_le cOne _ (by decide)

/-- While the transient runs, its envelope after one decay is still positive and at most 1. -/
theorem pluckDecay_bounds {p : F32} (h1 : fle p cOne = true) (hruns : fgt p cThrLo = true) :
    fle fzero (fmul p cPdecay) = true ∧ fle (fmul p cPdecay) cOne = true ∧ fgt (fmul p cPdecay) fzero = true := by
  have hmin : isFinite 0x38800000#32 = true := by decide
  have hminv : fval 0x38800000#32 = 1 / 2 ^ 14 := by
    rw [fval_of_sval (n := 2 ^ 135) (by decide)]
    norm_num
  have hp : isFinite p = true := by
    refine isFinite_of_fle isFinite_cThrLo isFinite_cOne ?_ h1
    simp only [fgt, flt, fle, Bool.and_eq_true, decide_eq_true_eq] at hruns ⊢
    exact ⟨hruns.1, hruns.2.le⟩
  rw [fle_iff hp isFinite_cOne, fval_cOne] at h1
  rw [fgt_iff hp isFinite_cThrLo, fval_cThrLo] at hruns
  obtain ⟨hfin, hlo, hhi⟩ := (isRN_fmul hp isFinite_cPdecay).bounds hmin isFinite_cOne
    (by rw [hminv, fval_cPdecay]; linarith) (by rw [fval_cOne, fval_cPdecay]; linarith)
  rw [hminv] at hlo
  rw [fle_iff isFinite_fzero hfin, fle_iff hfin isFinite_cOne, fgt_iff hfin isFinite_fzero, fval_fzero]
  exact ⟨by linarith, hhi, by linarith⟩

/-! ### A sound voice, by the fields that a frame writes -/

namespace Voice.Sound

variable {i : Slot} {v : Voice}

/-- An envelope, its state and its activity within their bounds keep a voice sound. -/
theorem withEnvelope (h : Voice.Sound i v) {env : F32} {st : EnvState} {act : Bool}
    (hact : act = true → v.active = true) (hlow : act = true → fle cThrLo env = true)
    (hhigh : act = true → 10000 * mag env < 9903 * 2 ^ 149)
    (hattack : act = true → st = .attack → fle env cThrHi = true) (hinactive : act = false → env = fzero) :
    Voice.Sound i { v with envelope := env, envelopeState := st, active := act } where
  allocated ha := h.allocated (hact ha)
  detune := h.detune
  attackCoeff := h.attackCoeff
  decayCoeff := h.decayCoeff
  pluckDecayCoeff := h.pluckDecayCoeff
  envelopeLow := hlow
  envelopeHigh := hhigh
  attackHigh := hattack
  inactive := hinactive
  pluckLow := h.pluckLow
  pluckHigh := h.pluckHigh
  pluckPositive := h.pluckPositive
  filter := h.filter

/-- A transient envelope and a filter state within their bounds keep a voice sound. -/
theorem withPluck (h : Voice.Sound i v) {p f : F32} (hlow : fle fzero p = true) (hhigh : fle p cOne = true)
    (hpos : fgt p fzero = true) (hfilter : fle (fabs f) cOne = true) :
    Voice.Sound i { v with pluckEnvelope := p, pluckFilterState := f } where
  allocated := h.allocated
  detune := h.detune
  attackCoeff := h.attackCoeff
  decayCoeff := h.decayCoeff
  pluckDecayCoeff := h.pluckDecayCoeff
  envelopeLow := h.envelopeLow
  envelopeHigh := h.envelopeHigh
  attackHigh := h.attackHigh
  inactive := h.inactive
  pluckLow := hlow
  pluckHigh := hhigh
  pluckPositive _ := hpos
  filter := hfilter

/-- The phases are free. -/
theorem withPhases (h : Voice.Sound i v) (p q : Word) : Voice.Sound i { v with phase := p, phase2 := q } :=
  ⟨h.1, h.2, h.3, h.4, h.5, h.6, h.7, h.8, h.9, h.10, h.11, h.12, h.13⟩

/-- The envelope of an active sound voice is a finite number from `C_THR_LO` up. -/
theorem envelope_finite (h : Voice.Sound i v) (ha : v.active = true) :
    isFinite v.envelope = true ∧ fval cThrLo ≤ fval v.envelope := by
  have hfin : isFinite v.envelope = true := by
    rw [isFinite_iff_mag, magOf_inf]
    have := h.envelopeHigh ha
    omega
  exact ⟨hfin, (fle_iff isFinite_cThrLo hfin).1 (h.envelopeLow ha)⟩

end Voice.Sound

/-- The upper bound of an active envelope, on values (R140). -/
theorem envelopeHigh_iff {e : F32} (h0 : 0 ≤ fval e) : 10000 * mag e < 9903 * 2 ^ 149 ↔ fval e < 9903 / 10000 := by
  rw [← abs_of_nonneg h0, abs_fval, div_lt_div_iff₀ (by positivity) (by norm_num), mul_comm (mag e : ℚ)]
  exact_mod_cast Iff.rfl

/-! ### A frame (R155) -/

theorem attackStep_sound {i : Slot} {v : Voice} (h : Voice.Sound i v) (ha : v.active = true)
    (hs : v.envelopeState = .attack) : Voice.Sound i (attackStep v) := by
  obtain ⟨hfin, hlow⟩ := h.envelope_finite ha
  have hpos : 0 ≤ fval v.envelope := le_trans (by rw [fval_cThrLo]; norm_num) hlow
  obtain ⟨hfin', hge, hle⟩ := attackEnvelope_le hfin hpos ((fle_iff hfin isFinite_cThrHi).1 (h.attackHigh ha hs))
  have hcoeff : v.attackCoeff = cAttack := by rw [h.attackCoeff, if_pos (h.allocated ha)]
  rw [attackEnvelope, ← hcoeff] at hfin' hge hle
  unfold attackStep
  generalize fadd v.envelope (fmul (fsub cOne v.envelope) v.attackCoeff) = e at hfin' hge hle ⊢
  refine h.withEnvelope id (fun _ => (fle_iff isFinite_cThrLo hfin').2 (hlow.trans hge)) (fun _ => ?_) (fun _ hst => ?_)
    (fun hi => by simp [ha] at hi)
  · rw [envelopeHigh_iff (hpos.trans hge)]
    refine hle.trans_lt ?_
    rw [fval_attackTop]
    norm_num
  · rw [fle_iff hfin' isFinite_cThrHi]
    by_contra hgt
    rw [if_pos ((fgt_iff hfin' isFinite_cThrHi).2 (not_le.1 hgt))] at hst
    cases hst

theorem decayStep_sound {i : Slot} {v : Voice} (h : Voice.Sound i v) (ha : v.active = true)
    (hs : v.envelopeState = .decay) : Voice.Sound i (decayStep v) := by
  obtain ⟨hfin, hlow⟩ := h.envelope_finite ha
  have hpos : 0 ≤ fval v.envelope := le_trans (by rw [fval_cThrLo]; norm_num) hlow
  have hcoeff : v.decayCoeff = cDecay := by rw [h.decayCoeff, if_pos (h.allocated ha)]
  obtain ⟨hfin', hpos', hle⟩ := fmul_bounds_of_unit (c := v.decayCoeff) hfin (by rw [hcoeff, isFinite_cDecay]) hpos
    (by rw [hcoeff, fval_cDecay]; norm_num) (by rw [hcoeff, fval_cDecay]; norm_num)
  have hhigh := (envelopeHigh_iff hpos).1 (h.envelopeHigh ha)
  unfold decayStep
  generalize fmul v.envelope v.decayCoeff = e at hfin' hpos' hle ⊢
  by_cases hend : flt e cThrLo = true
  · rw [if_pos hend]
    exact h.withEnvelope nofun nofun nofun nofun fun _ => rfl
  · rw [if_neg hend]
    rw [flt_iff hfin' isFinite_cThrLo, not_lt] at hend
    exact h.withEnvelope id (fun _ => (fle_iff isFinite_cThrLo hfin').2 hend)
      (fun _ => (envelopeHigh_iff hpos').2 (hle.trans_lt hhigh)) (fun _ hst => by simp [hs] at hst)
      (fun hi => by simp [ha] at hi)

theorem envStep_sound {i : Slot} {v : Voice} (h : Voice.Sound i v) (ha : v.active = true) :
    Voice.Sound i (envStep v) := by
  cases hs : v.envelopeState with
  | attack =>
    rw [envStep_of_attack hs]
    exact attackStep_sound h ha hs
  | decay =>
    rw [envStep_of_decay hs]
    exact decayStep_sound h ha hs

theorem pluckVoice_sound {i : Slot} {v : Voice} (h : Voice.Sound i v) (ha : v.active = true) (e : Entropy) :
    Voice.Sound i (pluckVoice v e) := by
  have hcoeff : v.pluckDecayCoeff = cPdecay := by rw [h.pluckDecayCoeff, if_pos (h.allocated ha)]
  unfold pluckVoice
  split
  · next hruns =>
    obtain ⟨hlow, hhigh, hpos⟩ := pluckDecay_bounds h.pluckHigh hruns
    rw [← hcoeff] at hlow hhigh hpos
    exact h.withPluck hlow hhigh hpos (filtered_le h.filter (noiseValue_le e))
  · exact h

theorem frameVoice_sound {i : Slot} {v : Voice} (h : Voice.Sound i v) (ha : v.active = true) (e : Entropy) :
    Voice.Sound i (frameVoice v e) := by
  rw [frameVoice]
  have hp := pluckVoice_sound h ha e
  refine envStep_sound (hp.withPhases _ _) ?_
  exact (pluckVoice_active v e).trans ha

/-! ### The voice file (R39) -/

theorem allocatedVoice_isSound (p : Params) (o : Word) (pitch : Nat) (i : Slot) (j : F32) (age : Word) :
    Voice.Sound i (allocatedVoice p o pitch i j age) := by
  have halloc := everAllocated_allocatedVoice p o pitch i j age
  exact {
    allocated := fun _ => halloc
    detune := fun _ => rfl
    attackCoeff := by rw [if_pos halloc]; rfl
    decayCoeff := by rw [if_pos halloc]; rfl
    pluckDecayCoeff := by rw [if_pos halloc]; rfl
    envelopeLow := fun _ => show fle cThrLo cEnvInit = true by decide
    envelopeHigh := fun _ => show 10000 * mag cEnvInit < 9903 * 2 ^ 149 by decide
    attackHigh := fun _ _ => show fle cEnvInit cThrHi = true by decide
    inactive := nofun
    pluckLow := show fle fzero cOne = true by decide
    pluckHigh := show fle cOne cOne = true by decide
    pluckPositive := fun _ => show fgt cOne fzero = true by decide
    filter := show fle (fabs fzero) cOne = true by decide }

theorem zero_isSound (i : Slot) : Voice.Sound i Voice.zero where
  allocated := nofun
  detune h := by simp [everAllocated_zero] at h
  attackCoeff := by decide
  decayCoeff := by decide
  pluckDecayCoeff := by decide
  envelopeLow := nofun
  envelopeHigh := nofun
  attackHigh := nofun
  inactive _ := rfl
  pluckLow := by decide
  pluckHigh := by decide
  pluckPositive h := by simp [everAllocated_zero] at h
  filter := by decide

/-- Settles O56: a block runs sound voices frame by frame, an allocation writes a sound one, reset the zero voice. -/
theorem voiceFileSoundKept : Obligations.VoiceFileSoundKept := by
  intro s t hs h i
  cases stepCase_of_step h with
  | quiet core =>
    rw [core.voice]
    exact hs i
  | reset _ eq =>
    subst eq
    rw [State.voice_resetEngine]
    exact zero_isSound i
  | fault _ eq _ =>
    subst eq
    rw [State.voice_raiseFault]
    exact hs i
  | allocate _ _ _ eq =>
    subst eq
    rw [State.voice_allocate]
    split
    · next hsel =>
      rw [hsel]
      exact allocatedVoice_isSound ..
    · exact hs i
  | @render _ n _ _ eq =>
    subst eq
    obtain ⟨e, he⟩ := s.delivered.voice_renderBlock n i
    rw [he]
    split
    · next ha => exact runVoice_keeps (fun _ e ha hv => frameVoice_sound hv ha e) n _ e ha (hs i)
    · exact hs i

/-! ### Reset is sound (R39, R40, R42) -/

/-- Settles O17: after reset the buffer is all `+0.0`, every voice is zero and no fault is recorded. -/
theorem resetIsSound : Obligations.ResetIsSound := by
  refine ⟨by decide, fun p _ => ⟨⟨?_, Nat.zero_le _⟩, ?_, ?_, ?_, .inl ⟨rfl, rfl⟩⟩⟩
  · exact List.length_replicate
  · intro y hy
    rw [List.eq_of_mem_replicate hy]
    exact ⟨by decide, by decide⟩
  · intro i
    rw [State.voice_resetWith]
    exact zero_isSound i
  · exact State.agesSound_of_zero (State.voice_resetWith p)

end Sys2Proof.Machine
end

section
/-! PROOFS. The host window (20_memory.md): the two accesses of the bus, what each range of the map reads as, and the
byte view. -/

namespace Sys2Proof.Machine

/-! ### The two accesses (R52, R53, R65) -/

/-- A read is answered with what the bus reads, and leaves the rest of the state. -/
theorem step_of_read {s : State} {bytes : Nat} {a : Addr} {rest : List HostMove} (h : s.moves = .read bytes a :: rest) :
    step s = .next { s with moves := rest, responses := s.busRead bytes a :: s.responses } := by
  rw [step, h]
  simp only [hostMove, State.takeMove, h, List.tail_cons]
  rfl

theorem step_of_write {s : State} {bytes : Nat} {a : Addr} {v : Word} {rest : List HostMove}
    (h : s.moves = .write bytes a v :: rest) : step s = busWrite bytes a v { s with moves := rest } := by
  rw [step, h]
  simp only [hostMove, State.takeMove, h, List.tail_cons]

/-- R55: nothing reads at a misaligned address. -/
theorem State.readWord_of_misaligned (s : State) {a : Addr} (ha : a.toNat % 4 ≠ 0) : s.readWord a = none :=
  if_pos ha

theorem State.busRead_of_some {s : State} {a : Addr} {w : Word} (h : s.readWord a = some w) :
    s.busRead 4 a = .data w := by
  rw [State.busRead, if_pos rfl, h]

theorem State.busRead_of_none {s : State} {a : Addr} (bytes : Nat) (h : s.readWord a = none) :
    s.busRead bytes a = .error := by
  rw [State.busRead, h, ite_self]

/-- A read of another width, of a misaligned address, or of one with nothing to read is a bus error. -/
theorem State.busRead_eq_error {s : State} {bytes : Nat} {a : Addr}
    (h : bytes ≠ 4 ∨ a.toNat % 4 ≠ 0 ∨ s.readWord a = none) : s.busRead bytes a = .error := by
  obtain hwidth | hmis | hnone := h
  · exact if_neg hwidth
  · exact State.busRead_of_none bytes (s.readWord_of_misaligned hmis)
  · exact State.busRead_of_none bytes hnone

theorem busWrite_cmd (v : Word) (s : State) : busWrite 4 0x0000#16 v s = execute v (s.respond .written) :=
  if_pos ⟨rfl, rfl⟩

theorem busWrite_arg0 (v : Word) (s : State) : busWrite 4 0x0004#16 v s = .next ((s.respond .written).setArg0 v) := by
  rw [busWrite, if_neg (by decide), if_pos ⟨rfl, rfl⟩]

/-- A write of another width, or to neither of the two writable addresses, is a bus error. -/
theorem busWrite_eq_error {bytes : Nat} {a : Addr} (v : Word) (s : State)
    (h : bytes ≠ 4 ∨ (a ≠ 0x0000#16 ∧ a ≠ 0x0004#16)) : busWrite bytes a v s = .next (s.respond .error) := by
  have hcmd : ¬ (bytes = 4 ∧ a = 0x0000#16) := fun ⟨hb, ha⟩ => h.elim (· hb) (·.1 ha)
  have harg0 : ¬ (bytes = 4 ∧ a = 0x0004#16) := fun ⟨hb, ha⟩ => h.elim (· hb) (·.2 ha)
  rw [busWrite, if_neg hcmd, if_neg harg0]

/-- The two writable addresses are aligned. -/
theorem ne_writable_of_misaligned {a : Addr} (ha : a.toNat % 4 ≠ 0) : a ≠ 0x0000#16 ∧ a ≠ 0x0004#16 :=
  ⟨fun h => ha (by rw [h]; rfl), fun h => ha (by rw [h]; rfl)⟩

/-- Both of them lie below `0x0008`. -/
theorem ne_writable_of_le {a : Addr} (ha : 8 ≤ a.toNat) : a ≠ 0x0000#16 ∧ a ≠ 0x0004#16 :=
  ⟨fun h => absurd (h ▸ ha) (by decide), fun h => absurd (h ▸ ha) (by decide)⟩

/-- Settles O7: the answer of a step that reads is that of `State.busRead`. -/
theorem readsChangeNothing : Obligations.ReadsChangeNothing := by
  intro s bytes a rest hm
  refine ⟨s.busRead bytes a, step_of_read hm, ?_, State.busRead_eq_error⟩
  rintro w rfl hw
  exact State.busRead_of_some hw

/-- Settles O8: one rule of `busWrite` for each clause. -/
theorem writesHaveTwoTargets : Obligations.WritesHaveTwoTargets := by
  intro s bytes a v rest hm
  rw [step_of_write hm]
  refine ⟨?_, ?_, busWrite_eq_error v _⟩
  · rintro rfl rfl
    exact busWrite_arg0 v _
  · rintro rfl rfl
    exact busWrite_cmd v _

/-- Settles O9: a misaligned write goes to neither of the two writable addresses, so O8's rule covers it. -/
theorem busErrorsChangeNothing : Obligations.BusErrorsChangeNothing := by
  intro s bytes a v rest
  refine ⟨fun hm herr => ?_, fun hm herr => ?_⟩
  · rw [step_of_read hm, State.busRead_eq_error herr]
  · rw [step_of_write hm]
    exact busWrite_eq_error v _ (herr.imp_right (Or.elim · ne_writable_of_misaligned id))

/-! ### What each range of the map reads as (R57, R66, R67) -/

section Ranges
variable (s : State) {a : Addr} {k : Nat}

theorem State.readWord_of_control (ha : a.toNat = 4 * k) (hk : k < 64) : s.readWord a = s.controlWord k := by
  simp (disch := omega) only [State.readWord, ha, if_neg, if_pos, Nat.mul_div_cancel_left]

theorem windowSlot_eq (i : Slot) {o : Nat} (ho : o < 0x40) : windowSlot (0x40 * i.val + o) = i := by
  have hi := i.isLt
  rw [windowSlot, Nat.mul_add_div (by decide), Nat.div_eq_of_lt ho]
  exact Fin.ext (Nat.mod_eq_of_lt hi)

/-- Byte offset `o` of the 16 words of voice `i`. -/
theorem State.readWord_of_voice (i : Slot) {o : Nat} (ha : a.toNat = 0x0100 + 0x40 * i.val + o) (ho : o < 0x40)
    (h4 : o % 4 = 0) : s.readWord a = some ((s.voice i).windowWord o) := by
  have hi : i.val < 14 := i.isLt
  have hoff : a.toNat - 0x0100 = 0x40 * i.val + o := by omega
  have hmod : (0x40 * i.val + o) % 0x40 = o := by omega
  simp (disch := omega) only [State.readWord, if_neg, if_pos]
  rw [hoff, hmod, windowSlot_eq i ho]

theorem State.readWord_of_freq (ha : a.toNat = 0x1000 + 4 * k) (hk : k < 256) :
    s.readWord a = some (freqEntry k) := by
  simp (disch := omega) only [State.readWord, ha, if_neg, if_pos, Nat.add_sub_cancel_left, Nat.mul_div_cancel_left]

theorem State.readWord_of_log2p (ha : a.toNat = 0x1400 + 4 * k) (hk : k < 256) :
    s.readWord a = some (log2pEntry k) := by
  simp (disch := omega) only [State.readWord, ha, if_neg, if_pos, Nat.add_sub_cancel_left, Nat.mul_div_cancel_left]

theorem State.readWord_of_detune (ha : a.toNat = 0x1800 + 4 * k) (hk : k < 14) :
    s.readWord a = some (detuneEntry k) := by
  simp (disch := omega) only [State.readWord, ha, if_neg, if_pos, Nat.add_sub_cancel_left, Nat.mul_div_cancel_left]

theorem State.readWord_of_sine (ha : a.toNat = 0x2000 + 4 * k) (hk : k < 2048) :
    s.readWord a = some (sineEntry k) := by
  simp (disch := omega) only [State.readWord, ha, if_neg, if_pos, Nat.add_sub_cancel_left, Nat.mul_div_cancel_left]

theorem State.readWord_of_out (ha : a.toNat = 0x4000 + 4 * k) (hk : k < s.params.blockMax) (hfit : k < 4096) :
    s.readWord a = some (s.outEntry k) := by
  simp (disch := omega) only [State.readWord, ha, if_neg, if_pos, Nat.add_sub_cancel_left, Nat.mul_div_cancel_left]

theorem State.readWord_of_pcm (ha : a.toNat = 0x8000 + 4 * k) (hk : k < s.params.blockMax) :
    s.readWord a = some (s.pcmWord k) := by
  simp (disch := omega) only [State.readWord, ha, if_neg, if_pos, Nat.add_sub_cancel_left, Nat.mul_div_cancel_left]

theorem State.controlWord_of_le (hk : 10 ≤ k) : s.controlWord k = none := by
  obtain ⟨j, rfl⟩ := Nat.exists_eq_add_of_le' hk
  rfl

/-- The ranges of the map that have nothing to read: past the control words, and the gaps between the other ranges. -/
theorem State.readWord_of_unmapped
    (ha : (0x0028 ≤ a.toNat ∧ a.toNat < 0x0100) ∨ (0x0480 ≤ a.toNat ∧ a.toNat < 0x1000) ∨
      (0x1838 ≤ a.toNat ∧ a.toNat < 0x2000) ∨ (0x4000 + 4 * s.params.blockMax ≤ a.toNat ∧ a.toNat < 0x8000) ∨
      0x8000 + 4 * s.params.blockMax ≤ a.toNat) : s.readWord a = none := by
  by_cases h4 : a.toNat % 4 = 0
  · obtain hctl | hgap := ha
    · have hword : s.readWord a = s.controlWord (a.toNat / 4) := s.readWord_of_control (by omega) (by omega)
      rw [hword, s.controlWord_of_le (by omega)]
    · obtain h | h | h | h := hgap <;> simp (disch := omega) only [State.readWord, if_neg, if_pos]
  · exact s.readWord_of_misaligned h4

end Ranges

/-! ### The fields of the words (R43, R66, R67) -/

theorem State.config_eq (s : State) : s.config = BitVec.ofNat 32 (s.params.blockMax * 2 ^ 16 + 14) := by
  have hmode : (pmodeBit Config.partialMode).toNat = 0 := rfl
  apply BitVec.eq_of_toNat_eq
  simp only [State.config, toNat_append_eq, BitVec.toNat_ofNat, Config.numVoices, hmode]
  omega

theorem Voice.flags_active (v : Voice) : v.flags.getLsbD 0 = v.active := by
  rw [Voice.flags]
  cases v.envelopeState <;> cases v.active <;> decide

theorem Voice.flags_envelopeState (v : Voice) : v.flags.getLsbD 1 = true ↔ v.envelopeState = .decay := by
  rw [Voice.flags]
  cases v.envelopeState <;> cases v.active <;> decide

theorem Voice.flags_above (v : Voice) {k : Nat} (hk : 2 ≤ k) : v.flags.getLsbD k = false := by
  rw [Voice.flags, BitVec.getLsbD_append, if_neg (by omega), BitVec.getLsbD_append, if_neg (by omega),
    BitVec.getLsbD_zero]

/-- A number below `2^16` is the address it makes. -/
theorem toNat_addr {n : Nat} (hn : n < 2 ^ 16) : (BitVec.ofNat 16 n : Addr).toNat = n :=
  Nat.mod_eq_of_lt hn

/-! ### The map, the voice window and the bytes (R54, R57, R66, R67) -/

/-- Settles O10: the ranges of the map one after the other. -/
theorem hostWindowMap : Obligations.HostWindowMap := by
  intro s ⟨_, hmax⟩
  have hmax : s.params.blockMax ≤ 4096 := hmax
  have control (k : Nat) (hk : k < 64) : s.readWord (BitVec.ofNat 16 (4 * k)) = s.controlWord k :=
    s.readWord_of_control (toNat_addr (by omega)) hk
  refine ⟨control 0 (by decide), control 1 (by decide), control 2 (by decide), control 3 (by decide),
    control 4 (by decide), control 5 (by decide), ?config, control 7 (by decide), control 8 (by decide),
    control 9 (by decide), ?freq, ?log2p, ?detune, ?sine, ?out, ?pcm, ?misaligned, ?unmapped⟩
  case config => exact (control 6 (by decide)).trans (congrArg some s.config_eq)
  case freq => exact fun p hp => s.readWord_of_freq (toNat_addr (by omega)) hp
  case log2p => exact fun p hp => s.readWord_of_log2p (toNat_addr (by omega)) hp
  case detune => exact fun i hi => s.readWord_of_detune (toNat_addr (by omega)) hi
  case sine => exact fun i hi => s.readWord_of_sine (toNat_addr (by omega)) hi
  case out => exact fun k hk => s.readWord_of_out (toNat_addr (by omega)) hk (by omega)
  case pcm => exact fun k hk => ⟨s.pcmWord k, s.readWord_of_pcm (toNat_addr (by omega)) hk,
    BitVec.extractLsb'_append_eq_right, BitVec.extractLsb'_append_eq_left⟩
  case misaligned => exact fun a => s.readWord_of_misaligned
  case unmapped => exact fun a => s.readWord_of_unmapped

/-- Settles O11: each offset is one word of `Voice.windowWord`, and no address of the voice window is writable. -/
theorem voiceWindowLayout : Obligations.VoiceWindowLayout := by
  intro s i
  have hi : i.val < 14 := i.isLt
  have word (o : Nat) (ho : o < 0x40) (h4 : o % 4 = 0) :
      s.readWord (BitVec.ofNat 16 (0x0100 + 0x40 * i.val + o)) = some ((s.voice i).windowWord o) :=
    s.readWord_of_voice i (toNat_addr (by omega)) ho h4
  refine ⟨⟨(s.voice i).flags, word 0x00 (by decide) rfl, (s.voice i).flags_active, (s.voice i).flags_envelopeState,
    fun _ => (s.voice i).flags_above⟩, word 0x04 (by decide) rfl, word 0x08 (by decide) rfl, word 0x0C (by decide) rfl,
    word 0x10 (by decide) rfl, word 0x14 (by decide) rfl, word 0x18 (by decide) rfl, word 0x1C (by decide) rfl,
    word 0x20 (by decide) rfl, word 0x24 (by decide) rfl, word 0x28 (by decide) rfl, word 0x2C (by decide) rfl,
    word 0x30 (by decide) rfl, word 0x34 (by decide) rfl, word 0x38 (by decide) rfl, word 0x3C (by decide) rfl,
    fun o v ho => busWrite_eq_error v s (.inr (ne_writable_of_le ?_))⟩
  rw [toNat_addr (by omega)]
  omega

/-- The byte `k` of an aligned word is at its address plus `k`: the sum stays within the window. -/
theorem toNat_add_of_aligned {a : Addr} {k : Nat} (h4 : a.toNat % 4 = 0) (hk : k < 4) :
    (a + BitVec.ofNat 16 k).toNat = a.toNat + k := by
  have ha := a.isLt
  have hkn : (BitVec.ofNat 16 k).toNat = k := toNat_addr (by omega)
  rw [BitVec.toNat_add_of_lt (by omega), hkn]

/-- Settles O12: the byte view goes back to the aligned address and takes the byte's bits. -/
theorem bytesAreLittleEndian : Obligations.BytesAreLittleEndian := by
  intro s a k h4 hk
  have hbyte : (a + BitVec.ofNat 16 k).toNat % 4 = k := by
    rw [toNat_add_of_aligned h4 hk]
    omega
  rw [State.readByteView, hbyte, BitVec.add_sub_cancel]

end Sys2Proof.Machine
end

section
/-! PROOFS. Encoding and decoding of command words (30_encoding.md): each row of the opcode map as an equivalence, the
round trip, and what executing a word does. -/

namespace Sys2Proof.Machine

/-! ### The rows of the opcode map (R71 to R76) -/

/-- What a word can decode to: one case per row, by `OP`, with `ZERO` 0 and the operands from the word. -/
theorem decode_eq_ok_iff {w : Word} {i : Instr} : decode w = .ok i ↔
    ((opField w).toNat = 1 ∧ zeroFieldNR w = 0#8 ∧ .noteon (pitchField w).toNat (velField w).toNat = i) ∨
    ((opField w).toNat = 2 ∧ zeroFieldNR w = 0#8 ∧ .render (nframesField w).toNat = i) ∨
    ((opField w).toNat = 3 ∧ zeroFieldQ w = 0#24 ∧ .sineat = i) ∨
    ((opField w).toNat = 4 ∧ zeroFieldQ w = 0#24 ∧ .sawat = i) ∨
    ((opField w).toNat = 5 ∧ zeroFieldQ w = 0#24 ∧ .phinc = i) := by
  unfold decode
  split <;> simp_all [requireZero_eq_ok]

theorem decode_eq_noteon_iff {w : Word} {p v : Nat} : decode w = .ok (.noteon p v) ↔
    ((opField w).toNat = 1 ∧ zeroFieldNR w = 0#8) ∧ (pitchField w).toNat = p ∧ (velField w).toNat = v := by
  simp [decode_eq_ok_iff, and_assoc]

theorem decode_eq_render_iff {w : Word} {n : Nat} : decode w = .ok (.render n) ↔
    ((opField w).toNat = 2 ∧ zeroFieldNR w = 0#8) ∧ (nframesField w).toNat = n := by
  simp [decode_eq_ok_iff, and_assoc]

theorem decode_eq_sineat_iff {w : Word} : decode w = .ok .sineat ↔ (opField w).toNat = 3 ∧ zeroFieldQ w = 0#24 := by
  simp [decode_eq_ok_iff]

theorem decode_eq_sawat_iff {w : Word} : decode w = .ok .sawat ↔ (opField w).toNat = 4 ∧ zeroFieldQ w = 0#24 := by
  simp [decode_eq_ok_iff]

theorem decode_eq_phinc_iff {w : Word} : decode w = .ok .phinc ↔ (opField w).toNat = 5 ∧ zeroFieldQ w = 0#24 := by
  simp [decode_eq_ok_iff]

/-! ### Decoding undoes encoding, and encoding undoes decoding -/

theorem wellFormed_noteon_iff {p v : Nat} : (Instr.noteon p v).WellFormed ↔ p < 256 ∧ v < 256 := by
  simp [Instr.WellFormed, Instr.wellFormed]

theorem wellFormed_render_iff {n : Nat} : (Instr.render n).WellFormed ↔ n < 65536 := by
  simp [Instr.WellFormed, Instr.wellFormed]

theorem decode_encode_noteon {p v : Nat} (hp : p < 256) (hv : v < 256) :
    decode (encode (.noteon p v)) = .ok (.noteon p v) := by
  refine decode_eq_noteon_iff.2 ⟨⟨?op, BitVec.eq_of_toNat_eq ?zero⟩, ?pitch, ?vel⟩
  case op => rw [opField_toNat, encode_noteon_toNat]; omega
  case zero => rw [zeroFieldNR_toNat, encode_noteon_toNat, BitVec.toNat_ofNat]; omega
  case pitch => rw [pitchField_toNat, encode_noteon_toNat]; omega
  case vel => rw [velField_toNat, encode_noteon_toNat]; omega

theorem decode_encode_render {n : Nat} (hn : n < 65536) : decode (encode (.render n)) = .ok (.render n) := by
  refine decode_eq_render_iff.2 ⟨⟨?op, BitVec.eq_of_toNat_eq ?zero⟩, ?nframes⟩
  case op => rw [opField_toNat, encode_render_toNat]; omega
  case zero => rw [zeroFieldNR_toNat, encode_render_toNat, BitVec.toNat_ofNat]; omega
  case nframes => rw [nframesField_toNat, encode_render_toNat]; omega

theorem decode_encode {i : Instr} (h : i.WellFormed) : decode (encode i) = .ok i := by
  cases i with
  | noteon p v =>
    obtain ⟨hp, hv⟩ := wellFormed_noteon_iff.1 h
    exact decode_encode_noteon hp hv
  | render n => exact decode_encode_render (wellFormed_render_iff.1 h)
  | sineat => rfl
  | sawat => rfl
  | phinc => rfl

/-- A word is its `OP` field and, in format `Q`, its `ZERO` field (R74). -/
theorem opField_append_zeroFieldQ (w : Word) : opField w ++ zeroFieldQ w = w := by
  apply BitVec.eq_of_toNat_eq
  rw [toNat_append_eq, opField_toNat, zeroFieldQ_toNat]
  omega

/-- The one word of a format `Q` row (R74). -/
theorem append_zero_eq_iff (op : BitVec 8) (w : Word) :
    op ++ 0#24 = w ↔ (opField w).toNat = op.toNat ∧ zeroFieldQ w = 0#24 := by
  constructor
  · rintro rfl
    refine ⟨?op, BitVec.eq_of_toNat_eq ?zero⟩
    case op => rw [opField_toNat, toNat_append_eq, BitVec.toNat_ofNat]; omega
    case zero => rw [zeroFieldQ_toNat, toNat_append_eq, BitVec.toNat_ofNat]; omega
  · rintro ⟨hop, hzero⟩
    rw [← opField_append_zeroFieldQ w, hzero, BitVec.eq_of_toNat_eq hop]

/-- The operands a word holds fit their fields (R72, R73). -/
theorem wellFormed_of_decode {w : Word} {i : Instr} (h : decode w = .ok i) : i.WellFormed := by
  cases i with
  | noteon p v =>
    obtain ⟨-, rfl, rfl⟩ := decode_eq_noteon_iff.1 h
    exact wellFormed_noteon_iff.2 ⟨(pitchField w).isLt, (velField w).isLt⟩
  | render n =>
    obtain ⟨-, rfl⟩ := decode_eq_render_iff.1 h
    exact wellFormed_render_iff.2 (nframesField w).isLt
  | sineat => rfl
  | sawat => rfl
  | phinc => rfl

theorem encode_of_decode {w : Word} {i : Instr} (h : decode w = .ok i) : encode i = w := by
  cases i with
  | noteon p v => exact encode_of_decode_noteon h
  | render n => exact encode_of_decode_render h
  | sineat => exact (append_zero_eq_iff _ w).2 (decode_eq_sineat_iff.1 h)
  | sawat => exact (append_zero_eq_iff _ w).2 (decode_eq_sawat_iff.1 h)
  | phinc => exact (append_zero_eq_iff _ w).2 (decode_eq_phinc_iff.1 h)

/-- Settles O1: the fields of an encoded word are the operands, and the fields of a decoded one are the word. -/
theorem decodeAndEncodeAgree : Obligations.DecodeAndEncodeAgree :=
  ⟨fun _ => decode_encode, fun _ _ h => ⟨wellFormed_of_decode h, encode_of_decode h⟩⟩

/-! ### Match and mask (R76) -/

/-- A word is its `OP`, `ZERO` and `NFRAMES` fields (R73). -/
theorem opField_append_zeroFieldNR (w : Word) : (opField w ++ zeroFieldNR w) ++ nframesField w = w := by
  apply BitVec.eq_of_toNat_eq
  rw [toNat_append_eq, toNat_append_eq, opField_toNat, zeroFieldNR_toNat, nframesField_toNat]
  omega

/-- What the mask of formats `N` and `R` keeps of a word: `OP` and `ZERO`. -/
theorem and_maskNR (w : Word) : w &&& 0xFFFF0000#32 = (opField w ++ zeroFieldNR w) ++ 0#16 := by
  calc w &&& 0xFFFF0000#32
      = ((opField w ++ zeroFieldNR w) ++ nframesField w) &&& (BitVec.allOnes 16 ++ 0#16) := by
        rw [opField_append_zeroFieldNR]; rfl
    _ = (opField w ++ zeroFieldNR w) ++ 0#16 := by
        rw [BitVec.and_append, BitVec.and_allOnes, BitVec.and_zero]

/-- A word matches a row of format `N` or `R` when its `OP` is the row's and its `ZERO` is 0. -/
theorem and_maskNR_eq_iff (w : Word) (op : BitVec 8) :
    w &&& 0xFFFF0000#32 = op ++ 0#24 ↔ (opField w).toNat = op.toNat ∧ zeroFieldNR w = 0#8 := by
  rw [and_maskNR, ← BitVec.toNat_inj, ← BitVec.toNat_inj (y := 0#8), toNat_append_eq, toNat_append_eq, toNat_append_eq]
  simp only [BitVec.toNat_ofNat]
  have := (zeroFieldNR w).isLt
  omega

/-- A word matches a row of format `Q`, whose mask keeps all of it, when it is the row's one word. -/
theorem and_maskQ_eq_iff (w : Word) (op : BitVec 8) :
    w &&& 0xFFFFFFFF#32 = op ++ 0#24 ↔ (opField w).toNat = op.toNat ∧ zeroFieldQ w = 0#24 := by
  rw [← append_zero_eq_iff, eq_comm, show w &&& 0xFFFFFFFF#32 = w from BitVec.and_allOnes]

/-- Settles O2: a row's fields are its match under its mask. -/
theorem decodeFollowsOpcodeMap : Obligations.DecodeFollowsOpcodeMap := by
  intro w
  refine ⟨fun p v => ?noteon, fun n => ?render, ?sineat, ?sawat, ?phinc⟩
  case noteon =>
    exact decode_eq_noteon_iff.trans (and_congr (and_maskNR_eq_iff w 0x01#8).symm (and_congr eq_comm eq_comm))
  case render => exact decode_eq_render_iff.trans (and_congr (and_maskNR_eq_iff w 0x02#8).symm eq_comm)
  case sineat => exact decode_eq_sineat_iff.trans (and_maskQ_eq_iff w 0x03#8).symm
  case sawat => exact decode_eq_sawat_iff.trans (and_maskQ_eq_iff w 0x04#8).symm
  case phinc => exact decode_eq_phinc_iff.trans (and_maskQ_eq_iff w 0x05#8).symm

/-! ### Illegal words (R77) -/

theorem exists_requireZero_eq_error {zero : Bool} {i : Instr} :
    (∃ e, requireZero zero i = .error e) ↔ zero = false := by
  cases zero <;> simp [requireZero]

/-- The illegal words, by `OP` and `ZERO`. -/
theorem exists_decode_eq_error_iff (w : Word) : (∃ e, decode w = .error e) ↔
    opField w = 0x00#8 ∨ 0x06 ≤ (opField w).toNat ∨
    ((opField w = 0x01#8 ∨ opField w = 0x02#8) ∧ zeroFieldNR w ≠ 0#8) ∨
    ((opField w = 0x03#8 ∨ opField w = 0x04#8 ∨ opField w = 0x05#8) ∧ zeroFieldQ w ≠ 0#24) := by
  simp only [← BitVec.toNat_inj (x := opField w), BitVec.toNat_ofNat]
  unfold decode
  split
  case h_6 =>
    simp only [imp_false] at *
    exact iff_of_true ⟨_, rfl⟩ (by omega)
  all_goals simp [exists_requireZero_eq_error, *]

/-- R77, R183: an illegal word raises `ILLCMD`. -/
theorem execute_of_error {s : State} {w : Word} {e : DecodeError} (hf : s.faulted = false) (h : decode w = .error e) :
    execute w s = .next (s.raiseFault .illcmd w) := by
  simp [execute, hf, h]

/-- R82: a command's word runs the command. -/
theorem execute_of_ok {s : State} {w : Word} {i : Instr} (hf : s.faulted = false) (h : decode w = .ok i) :
    execute w s = exec i s := by
  simp [execute, hf, h]

/-! ### No command is a no-operation (R77) -/

/-- Two states are different when some register's word is one more in one of them. -/
theorem State.ne_of_register (reg : State → Word) {s t : State} (h : reg s = reg t + 1) : t ≠ s := by
  rintro rfl
  simp at h

theorem State.raiseFault_ne {s : State} (hf : s.faulted = false) (c : Cause) (w : Word) : s.raiseFault c w ≠ s := by
  intro h
  have hfault := s.faulted_raiseFault c w
  rw [h, hf] at hfault
  cases hfault

/-- A command that answers the same word whatever `RESULT` holds changes an engine that holds another. -/
theorem exists_exec_ne_of_result {i : Instr} (r : Word)
    (h : ∀ x, ∃ t, exec i (State.reset.setResult x) = .next t ∧ t.result = r) :
    ∃ s t, s.faulted = false ∧ exec i s = .next t ∧ t ≠ s := by
  obtain ⟨t, ht, hr⟩ := h (r + 1)
  exact ⟨State.reset.setResult (r + 1), t, show State.reset.faulted = false from rfl, ht,
    State.ne_of_register State.result (by rw [hr, State.result_setResult])⟩

/-- Each command changes an engine whose `RESULT`, `AGECTR` or `OUTLEN` is not what the command leaves there. -/
theorem exists_exec_ne (i : Instr) : ∃ s t, s.faulted = false ∧ exec i s = .next t ∧ t ≠ s := by
  cases i with
  | noteon p v =>
    by_cases hv : v = 0
    · exact exists_exec_ne_of_result noVoiceWord fun _ => ⟨_, if_pos hv, rfl⟩
    · exact ⟨State.reset, State.reset.allocate p, rfl, (if_neg hv).trans (if_neg (by decide)),
        (State.ne_of_register State.agectr rfl).symm⟩
  | render n =>
    by_cases hn : n ≤ Config.blockMaxReference
    · exact ⟨{ State.reset with outlen := frameCountWord n + 1 }, _, show State.reset.faulted = false from rfl,
        exec_render_of_le hn, State.ne_of_register State.outlen rfl⟩
    · exact ⟨State.reset, _, rfl, if_pos (Nat.lt_of_not_le hn), State.raiseFault_ne rfl _ _⟩
  | sineat => exact exists_exec_ne_of_result (sineAt State.reset.arg0) fun _ => ⟨_, rfl, rfl⟩
  | sawat => exact exists_exec_ne_of_result (sawAt State.reset.arg0) fun _ => ⟨_, rfl, rfl⟩
  | phinc =>
    exact exists_exec_ne_of_result
      (phaseIncrementFor (Config.freePhaseInc State.reset.entropy.unspecified) State.reset.arg0) fun _ =>
        ⟨_, rfl, by simp [State.frequencyOperand]⟩

/-- Settles O3: the illegal words by their fields, the one fault they raise, and an engine each command changes. -/
theorem illegalWordRaisesIllcmd : Obligations.IllegalWordRaisesIllcmd :=
  ⟨exists_decode_eq_error_iff, fun _ _ _ hf hd => execute_of_error hf hd, ⟨.undefinedOp, rfl⟩, ⟨.undefinedOp, rfl⟩,
    fun _ i _ => exists_exec_ne i⟩

/-! ### Words of the pattern strings, and the step that runs a command -/

/-- Settles O4: the decoder evaluated on the six words. -/
theorem specWordsDecode : Obligations.SpecWordsDecode := ⟨rfl, rfl, rfl, rfl, rfl, rfl⟩

/-- Settles O5: the step is the bus's write to `CMD`, which executes the word. -/
theorem stepRunsDecodedCommand : Obligations.StepRunsDecodedCommand := by
  intro s w rest i hf hm hd
  rw [step_of_write hm, busWrite_cmd]
  exact execute_of_ok hf hd

end Sys2Proof.Machine
end

section
/-! PROOFS. The constant tables (47_sine_table.md, 48_tuning_tables.md), and the sine lookup (R92), whose range follows
from what the spec says of its table. -/

namespace Sys2Proof.Machine

/-! ### What the spec says of its tables (R91, R175 to R178) -/

/-- An octave up doubles a frequency. -/
theorem sval_freqEntry_add_octave : ∀ p < 244, sval (freqEntry (p + 12)) = 2 * sval (freqEntry p) := by decide +kernel

theorem sval_freqEntry_lt_succ : ∀ p < 255, sval (freqEntry p) < sval (freqEntry (p + 1)) := by decide +kernel

theorem sval_log2pEntry_lt_succ : ∀ p < 255, sval (log2pEntry p) < sval (log2pEntry (p + 1)) := by decide +kernel

theorem sval_detuneEntry_lt_succ : ∀ i < 13, sval (detuneEntry i) < sval (detuneEntry (i + 1)) := by decide +kernel

theorem detuneEntry_ne_one : ∀ i < 14, detuneEntry i ≠ cOne := by decide +kernel

/-- Half a turn on, the sine is negated. -/
theorem sval_sineEntry_add_half : ∀ i < 1024, sval (sineEntry (i + 1024)) = -sval (sineEntry i) := by decide +kernel

/-- The first half turn is its own mirror image. -/
theorem sval_sineEntry_half_sub : ∀ i < 1025, sval (sineEntry (1024 - i)) = sval (sineEntry i) := by decide +kernel

theorem sval_sineEntry_lt_succ : ∀ i < 512, sval (sineEntry i) < sval (sineEntry (i + 1)) := by decide +kernel

/-- Settles O30: the clauses on whole tables, and single entries read from them. -/
theorem constantTables : Obligations.ConstantTables :=
  ⟨sval_freqEntry_add_octave, fun p hp => ⟨sval_freqEntry_lt_succ p hp, sval_log2pEntry_lt_succ p hp⟩,
    by decide +kernel, by decide +kernel, by decide +kernel, by decide +kernel, sval_detuneEntry_lt_succ,
    detuneEntry_ne_one, sval_sineEntry_add_half, sval_sineEntry_half_sub, sval_sineEntry_lt_succ, by decide +kernel,
    by decide +kernel⟩

/-! ### The range of a table -/

/-- What rises at every step up to `n` lies between its values at `0` and at `n`. -/
theorem between_ends_of_lt_succ {f : Nat → Int} {n i : Nat} (h : ∀ m < n, f m < f (m + 1)) (hi : i ≤ n) :
    f 0 ≤ f i ∧ f i ≤ f n := by
  have hmono := (strictMonoOn_Iic_of_lt_succ h).monotoneOn
  exact ⟨hmono (Nat.zero_le n) hi (Nat.zero_le i), hmono hi Set.self_mem_Iic hi⟩

/-- An entry of the sine table is at most 1 in magnitude: its first quarter rises from 0 to 1, and the symmetries carry
that round the circle. -/
theorem natAbs_sval_sineEntry_le {i : Nat} (hi : i < 2048) : (sval (sineEntry i)).natAbs ≤ 2 ^ 149 := by
  have h0 : sval (sineEntry 0) = 0 := by decide +kernel
  have h512 : sval (sineEntry 512) = 2 ^ 149 := by decide +kernel
  have quarter (j : Nat) (hj : j ≤ 512) : (sval (sineEntry j)).natAbs ≤ 2 ^ 149 := by
    obtain ⟨hlo, hhi⟩ := between_ends_of_lt_succ sval_sineEntry_lt_succ hj
    rw [h0] at hlo
    rw [h512] at hhi
    omega
  have half (j : Nat) (hj : j < 1024) : (sval (sineEntry j)).natAbs ≤ 2 ^ 149 := by
    rcases Nat.le_total j 512 with h | h
    · exact quarter j h
    · rw [← sval_sineEntry_half_sub j (by omega)]
      exact quarter (1024 - j) (by omega)
  rcases Nat.lt_or_ge i 1024 with h | h
  · exact half i h
  · obtain ⟨j, rfl⟩ := Nat.exists_eq_add_of_le' h
    rw [sval_sineEntry_add_half j (by omega), Int.natAbs_neg]
    exact half j (by omega)

/-! ### The sine lookup (R92) -/

theorem phaseIndex_eq (phase : Word) : phaseIndex phase = phase.toNat / 2 ^ 21 := by
  have hlt := phase.isLt
  rw [phaseIndex, BitVec.extractLsb'_toNat, Nat.shiftRight_eq_div_pow]
  omega

/-- A magnitude of at most `2^149` units is a value in `[-1, 1]`. -/
theorem unit_of_natAbs_sval_le {x : F32} (h : (sval x).natAbs ≤ 2 ^ 149) :
    isNaN x = false ∧ -1 ≤ fval x ∧ fval x ≤ 1 := by
  rw [← mag_eq_natAbs_sval] at h
  refine ⟨isNaN_of_isFinite ((isFinite_iff_mag x).2 (h.trans_lt (by rw [magOf_inf]; norm_num))), abs_le.1 ?_⟩
  rw [abs_fval, div_le_one (by positivity)]
  exact_mod_cast h

/-- Settles O37: the index is the phase's quotient by `2^21`, below the table's length. -/
theorem sineLookup : Obligations.SineLookup := by
  intro phase
  have hindex : phaseIndex phase < 2048 := BitVec.isLt _
  refine ⟨by rw [sineAt, phaseIndex_eq], fun phase' h => ?_,
    unit_of_natAbs_sval_le (natAbs_sval_sineEntry_le hindex)⟩
  rw [sineAt, phaseIndex, h, ← phaseIndex, ← sineAt]

end Sys2Proof.Machine
end

section
/-! PROOFS. The sawtooth ramp (R94, R95): `sawAt` as one rounding of the exact ramp, its ends and its order. -/

namespace Sys2Proof.Machine

/-! ### Rounding keeps order and bounds -/

/-- The rounding of a number between the values `a` and `b` of two patterns lies between them. -/
theorem IsRN.bounds_of_eq {x a b : ℚ} {r lo hi : F32} (h : IsRN x r) (hlo : isFinite lo = true)
    (hhi : isFinite hi = true) (ha : fval lo = a) (hb : fval hi = b) (h1 : a ≤ x) (h2 : x ≤ b) :
    isFinite r = true ∧ a ≤ fval r ∧ fval r ≤ b := by
  subst ha hb
  exact h.bounds hlo hhi h1 h2

/-- Of two numbers below the overflow, the smaller rounds to no larger value: that each is nearest to its own rounding
adds up to `(r - q) * (y - x) ≤ 0`. -/
theorem IsRN.fval_le_of_lt {x y : ℚ} {r q : F32} (hr : IsRN x r) (hq : IsRN y q) (hx : |x| < 2 ^ 128 - 2 ^ 103)
    (hy : |y| < 2 ^ 128 - 2 ^ 103) (hxy : x < y) : fval r ≤ fval q := by
  obtain ⟨hrfin, hrnear, -⟩ := hr.1 hx
  obtain ⟨hqfin, hqnear, -⟩ := hq.1 hy
  by_contra! hlt
  have h1 := hrnear q hqfin
  have h2 := hqnear r hrfin
  rw [← sq_le_sq] at h1 h2
  have hprod := mul_pos (sub_pos.2 hlt) (sub_pos.2 hxy)
  linarith

/-! ### The ramp -/

/-- A phase with its top bit flipped, read as signed, is the phase less half a turn. -/
theorem toInt_fneg (phase : Word) : (fneg phase).toInt = (phase.toNat : Int) - 2 ^ 31 := by
  have hmod := fneg_toNat_mod phase
  have hmsb := signBit_fneg phase
  have h1 := (fneg phase).isLt
  have h2 := phase.isLt
  rw [signBit, signBit, BitVec.msb_eq_decide, BitVec.msb_eq_decide, Bool.eq_iff_iff, Bool.not_eq_true',
    decide_eq_true_iff, decide_eq_false_iff_not] at hmsb
  rw [BitVec.toInt_eq_toNat_cond]
  split <;> omega

/-- The ramp's distance from its middle, in units of `2^-31`. -/
def rampSteps (phase : Word) : Int := (phase.toNat : Int) - 2 ^ 31

theorem sawAt_eq_roundF (phase : Word) :
    sawAt phase = roundF (decide (rampSteps phase < 0)) ((rampSteps phase).natAbs * 2 ^ 118) 1 := by
  rw [rampSteps, ← toInt_fneg]
  rfl

/-- The exact ramp. -/
def rampValue (phase : Word) : ℚ := (phase.toNat : ℚ) / 2 ^ 31 - 1

theorem rampValue_bounds (phase : Word) : -1 ≤ rampValue phase ∧ rampValue phase ≤ 1 := by
  have hlt : (phase.toNat : ℚ) ≤ 2 ^ 32 := by exact_mod_cast phase.isLt.le
  have h0 : (0 : ℚ) ≤ phase.toNat / 2 ^ 31 := by positivity
  have h2 : (phase.toNat : ℚ) / 2 ^ 31 ≤ 2 := by
    rw [div_le_iff₀ (by positivity)]
    exact hlt.trans_eq (by norm_num)
  rw [rampValue]
  exact ⟨by linarith, by linarith⟩

theorem abs_rampValue_lt (phase : Word) : |rampValue phase| < 2 ^ 128 - 2 ^ 103 :=
  (abs_le.2 (rampValue_bounds phase)).trans_lt (by norm_num)

theorem isRN_sawAt (phase : Word) : IsRN (rampValue phase) (sawAt phase) := by
  have hx : rampValue phase = signFactor (decide (rampSteps phase < 0)) *
      ((((rampSteps phase).natAbs * 2 ^ 118 : Nat) : ℚ) / (1 : Nat)) / 2 ^ 149 := by
    have hs := signFactor_mul_natAbs (rampSteps phase)
    have hcast : ((rampSteps phase : Int) : ℚ) = phase.toNat - 2 ^ 31 := by norm_num [rampSteps]
    rw [rampValue, Nat.cast_one, div_one, Nat.cast_mul, ← mul_assoc, hs, hcast]
    push_cast
    ring
  rw [hx, sawAt_eq_roundF]
  exact isRN_roundF _ _ one_pos

theorem fval_sawAt_bounds (phase : Word) : -1 ≤ fval (sawAt phase) ∧ fval (sawAt phase) ≤ 1 := by
  obtain ⟨hlo, hhi⟩ := rampValue_bounds phase
  have hneg : fval (fneg cOne) = -1 := by rw [fval_fneg, fval_cOne]
  obtain ⟨-, hb⟩ := (isRN_sawAt phase).bounds_of_eq (by decide) isFinite_cOne hneg fval_cOne hlo hhi
  exact hb

theorem fval_sawAt_mono {phase phase' : Word} (h : phase.toNat ≤ phase'.toNat) :
    fval (sawAt phase) ≤ fval (sawAt phase') := by
  rcases h.lt_or_eq with hlt | heq
  · refine (isRN_sawAt phase).fval_le_of_lt (isRN_sawAt phase') (abs_rampValue_lt _) (abs_rampValue_lt _) ?_
    have hcast : (phase.toNat : ℚ) < phase'.toNat := by exact_mod_cast hlt
    rw [rampValue, rampValue]
    gcongr
  · rw [BitVec.eq_of_toNat_eq heq]

/-! ### The ends and the middle of the ramp -/

/-- A ramp within 64 steps of its end rounds to the end: half a unit in the last place there is 64 steps. -/
theorem roundMag_ramp_end {n : Nat} (h1 : 2 ^ 31 - 64 ≤ n) (h2 : n ≤ 2 ^ 31) :
    roundMag (n * 2 ^ 118) 1 = 0x3F800000 := by
  have hone : magOf 0x3F800000 = 2 ^ 149 := by decide
  have hedge : roundMag ((2 ^ 31 - 64) * 2 ^ 118) 1 = 0x3F800000 := by decide
  apply Nat.le_antisymm
  · exact roundMag_le_of_le one_pos (by norm_num) (by rw [hone]; omega)
  · rw [← hedge]
    exact roundMag_mono one_pos one_pos (by omega)

theorem sawAt_low {phase : Word} (h : phase.toNat ≤ 0x40) : sawAt phase = 0xBF800000#32 := by
  have hsteps : rampSteps phase = phase.toNat - 2 ^ 31 := rfl
  rw [sawAt_eq_roundF, roundF, decide_eq_true (by omega), roundMag_ramp_end (by omega) (by omega)]
  rfl

theorem sawAt_high {phase : Word} (h : 0xFFFFFFC0 ≤ phase.toNat) : sawAt phase = 0x3F800000#32 := by
  have hlt := phase.isLt
  have hsteps : rampSteps phase = phase.toNat - 2 ^ 31 := rfl
  rw [sawAt_eq_roundF, roundF, decide_eq_false (by omega), roundMag_ramp_end (by omega) (by omega)]
  rfl

/-- The ramp is never `-0.0`: a negative one is at least a whole step, and no step rounds to 0. -/
theorem sawAt_ne_neg_zero (phase : Word) : sawAt phase ≠ 0x80000000#32 := by
  intro h
  have hneg : rampSteps phase < 0 := by
    have hsign := congrArg signBit h
    rw [sawAt_eq_roundF, signBit_roundF] at hsign
    exact of_decide_eq_true hsign
  have hmag : magOf (roundMag ((rampSteps phase).natAbs * 2 ^ 118) 1) = 0 := by
    rw [← mag_roundF (decide (rampSteps phase < 0)), ← sawAt_eq_roundF, h]
    decide
  have hstep : 1 ≤ roundMag ((rampSteps phase).natAbs * 2 ^ 118) 1 :=
    le_roundMag_of_le one_pos (by norm_num) (by rw [magOf_of_lt (by norm_num)]; omega)
  have hpos := magOf_strictMono hstep
  omega

/-- Settles O38: the ramp rounded once, and the monotonicity of rounding. -/
theorem sawRamp : Obligations.SawRamp :=
  ⟨fun phase => ⟨isRN_sawAt phase, fval_sawAt_bounds phase⟩, fun _ _ => fval_sawAt_mono, sawAt_low (by decide),
    by decide, fun _ => sawAt_high⟩

end Sys2Proof.Machine
end

section
/-! PROOFS. The phase increment of a frequency (R96): one formula on the frequency in units of `2^-149`, which covers
zeros, negative values and infinities too. -/

namespace Sys2Proof.Machine

/-! ### The rounded quotient -/

/-- `floor(q + 1/2)` of the increment `q = f * 2^32 / 44100` of a frequency of `m` units of `2^-149`. -/
def roundedIncrement (m : Nat) : Nat := (2 * m + sampleRate * 2 ^ 117) / (2 * (sampleRate * 2 ^ 117))

theorem roundedIncrement_mono : Monotone roundedIncrement := fun _ _ h =>
  Nat.div_le_div_right (Nat.add_le_add_right (Nat.mul_le_mul_left 2 h) _)

theorem roundedIncrement_eq_zero_iff {m : Nat} : roundedIncrement m = 0 ↔ m < 44100 * 2 ^ 116 := by
  unfold roundedIncrement sampleRate
  omega

/-- From the sample rate on the increment does not fit 32 bits. -/
theorem le_roundedIncrement {m : Nat} (h : 44100 * 2 ^ 149 ≤ m) : 2 ^ 32 - 1 ≤ roundedIncrement m := by
  unfold roundedIncrement sampleRate
  omega

theorem roundedIncrement_eq_floor (m : Nat) :
    (roundedIncrement m : Int) = ⌊(m : ℚ) / 2 ^ 149 * 2 ^ 32 / 44100 + 1 / 2⌋ := by
  rw [roundedIncrement, Int.natCast_ediv, ← Rat.floor_natCast_div_natCast, sampleRate]
  congr 1
  push_cast
  ring

/-! ### The increment of every number -/

/-- The increment of a pattern that is no NaN: the rounded quotient of its value, a negative value taken as 0, held to
32 bits. The infinity lies beyond the saturation. -/
theorem toNat_phaseIncrementFor {f : F32} (h : isNaN f = false) (o : Word) :
    (phaseIncrementFor o f).toNat = min (roundedIncrement (sval f).toNat) (2 ^ 32 - 1) := by
  rw [phaseIncrementFor, h, if_neg Bool.false_ne_true]
  cases hs : signBit f with
  | true =>
    have h0 : (sval f).toNat = 0 := by simp [sval, hs]
    rw [if_pos rfl, h0, roundedIncrement_eq_zero_iff.2 (by norm_num)]
    rfl
  | false =>
    have hm : (sval f).toNat = mag f := by simp [sval, hs]
    rw [if_neg Bool.false_ne_true, hm]
    split
    · next hinf =>
      have hmag : mag f = 2 ^ 24 * 2 ^ 253 := by rw [mag_eq_magOf, (isInf_iff f).1 hinf, magOf_inf]
      rw [min_eq_right (le_roundedIncrement (by rw [hmag]; norm_num))]
      rfl
    · exact (BitVec.toNat_ofNat ..).trans
        (Nat.mod_eq_of_lt ((Nat.min_le_right _ _).trans_lt (Nat.sub_lt (Nat.two_pow_pos 32) one_pos)))

section Number
variable {f : F32} (h : isNaN f = false) (o : Word)
include h

/-- The free value is not used for a number. -/
theorem phaseIncrementFor_eq (o' : Word) : phaseIncrementFor o f = phaseIncrementFor o' f :=
  BitVec.eq_of_toNat_eq (by rw [toNat_phaseIncrementFor h, toNat_phaseIncrementFor h])

/-- So one evaluation shows the increment of a given number, whatever the free value. -/
theorem phaseIncrementFor_eq_of_zero {r : Word} (hr : phaseIncrementFor 0#32 f = r) : phaseIncrementFor o f = r :=
  (phaseIncrementFor_eq h o 0#32).trans hr

theorem phaseIncrementFor_eq_zero_iff : phaseIncrementFor o f = 0#32 ↔ sval f < 44100 * 2 ^ 116 := by
  have hnat : (sval f).toNat < 44100 * 2 ^ 116 ↔ sval f < 44100 * 2 ^ 116 := by omega
  rw [← BitVec.toNat_inj, toNat_phaseIncrementFor h, ← hnat, ← roundedIncrement_eq_zero_iff, BitVec.toNat_ofNat]
  omega

theorem phaseIncrementFor_eq_last (hf : 44100 * 2 ^ 149 ≤ sval f) : phaseIncrementFor o f = 0xFFFFFFFF#32 := by
  apply BitVec.eq_of_toNat_eq
  rw [toNat_phaseIncrementFor h, min_eq_right (le_roundedIncrement (by omega))]
  rfl

end Number

theorem phaseIncrementFor_of_isNaN {f : F32} (h : isNaN f = true) (o : Word) : phaseIncrementFor o f = o :=
  if_pos h

/-- A subnormal, zeros included, has increment 0. -/
theorem phaseIncrementFor_of_subnormal {f : F32} (h : expField f = 0) (o : Word) : phaseIncrementFor o f = 0#32 := by
  have hmag : mag f < 2 ^ 23 := by
    rw [mag, if_pos h]
    exact Nat.mod_lt _ (Nat.two_pow_pos 23)
  rw [mag_eq_natAbs_sval] at hmag
  rw [phaseIncrementFor_eq_zero_iff (isNaN_of_isFinite (by rw [isFinite, h]; rfl))]
  omega

theorem phaseIncrementFor_mono {f g : F32} (h : fle f g = true) (o : Word) :
    (phaseIncrementFor o f).toNat ≤ (phaseIncrementFor o g).toNat := by
  simp only [fle, Bool.and_eq_true, Bool.not_eq_true', decide_eq_true_eq] at h
  obtain ⟨⟨hf, hg⟩, hle⟩ := h
  rw [toNat_phaseIncrementFor hf, toNat_phaseIncrementFor hg]
  exact min_le_min (roundedIncrement_mono (by omega)) le_rfl

/-- The increment of a positive value as the spec writes it. -/
theorem toNat_phaseIncrementFor_eq_floor {f : F32} (hf : isFinite f = true) (h0 : 0 < fval f) (o : Word) :
    ((phaseIncrementFor o f).toNat : ℤ) = min ⌊fval f * 2 ^ 32 / 44100 + 1 / 2⌋ (2 ^ 32 - 1) := by
  have hpos : 0 ≤ sval f := by
    rw [← fval_fzero, fval_lt_fval, show sval fzero = 0 by decide] at h0
    exact h0.le
  have hval : fval f = ((sval f).toNat : ℚ) / 2 ^ 149 := by
    rw [fval, ← Int.cast_natCast, Int.toNat_of_nonneg hpos]
  rw [toNat_phaseIncrementFor (isNaN_of_isFinite hf), hval, ← roundedIncrement_eq_floor, Nat.cast_min]
  norm_num

/-- Settles O39: each clause is a fact about the one formula of `toNat_phaseIncrementFor`. -/
theorem phaseIncrementExact : Obligations.PhaseIncrementExact := by
  have hleast : sval 0x36AC4400#32 = 44100 * 2 ^ 116 := by decide
  have hrate : fval 0x472C4400#32 = 44100 := by
    rw [fval_of_sval (n := 44100 * 2 ^ 149) (by decide)]
    norm_num
  refine ⟨fun o f h => phaseIncrementFor_of_isNaN h o, fun o => ⟨?inf, ?neginf⟩, fun o f hf h0 => ?nonpos,
    fun o f hf h0 => toNat_phaseIncrementFor_eq_floor hf h0 o, fun o f g h => phaseIncrementFor_mono h o,
    fun o f hf h => ?saturated, fun o => ⟨?below, ?first⟩, fun o f hf h => ?least⟩
  case inf | neginf | below | first => exact phaseIncrementFor_eq_of_zero (by decide) o (by decide)
  case nonpos =>
    rw [← fval_fzero, fval_le_fval, show sval fzero = 0 by decide] at h0
    exact (phaseIncrementFor_eq_zero_iff (isNaN_of_isFinite hf) o).2 (by omega)
  case saturated =>
    rw [← hrate, fval_le_fval, show sval 0x472C4400#32 = 44100 * 2 ^ 149 by decide] at h
    exact phaseIncrementFor_eq_last (isNaN_of_isFinite hf) o h
  case least =>
    rw [ne_eq, phaseIncrementFor_eq_zero_iff (isNaN_of_isFinite hf), not_lt] at h
    rwa [fval_le_fval, hleast]

end Sys2Proof.Machine
end

section
/-! PROOFS. The query commands `SINEAT`, `SAWAT` and `PHINC` (R93, R95, R97), and their frame through the host
window. -/

namespace Sys2Proof.Machine

/-! ### What they do -/

theorem exec_sineat (s : State) : exec .sineat s = .next { s with result := sineAt s.arg0 } := rfl

theorem exec_sawat (s : State) : exec .sawat s = .next { s with result := sawAt s.arg0 } := rfl

theorem exec_phinc (s : State) :
    exec .phinc s = .next { s with
      result := phaseIncrementFor (Config.freePhaseInc s.entropy.unspecified) s.arg0
      entropy := s.entropy.afterPhinc s.arg0 } := rfl

theorem Entropy.afterPhinc_of_number (e : Entropy) {f : F32} (h : isNaN f = false) : e.afterPhinc f = e := by
  rw [Entropy.afterPhinc, h, if_neg Bool.false_ne_true]

theorem Entropy.afterPhinc_of_isNaN (e : Entropy) {f : F32} (h : isNaN f = true) :
    e.afterPhinc f = { e with unspecified := e.unspecified + 1 } :=
  if_pos h

/-- Settles O33. -/
theorem sineatCommand : Obligations.SineatCommand :=
  ⟨by decide, exec_sineat, by decide +kernel, by decide +kernel, by decide +kernel, by decide +kernel⟩

/-- Settles O34: the low end of the ramp, and that it has no `-0.0`. -/
theorem sawatCommand : Obligations.SawatCommand :=
  ⟨by decide, exec_sawat, sawAt_ne_neg_zero, fun _ => sawAt_low, by decide, by decide⟩

/-- Settles O35: a number's increment does not use the free value, and moves no count. -/
theorem phincCommand : Obligations.PhincCommand := by
  refine ⟨by decide, fun s h o => ?number, fun s h => ⟨_, exec_phinc s⟩, fun e f h => e.afterPhinc_of_isNaN h,
    fun o => ⟨?negzero, ?half, ?rate, ?concert⟩, fun o f h => phaseIncrementFor_of_subnormal h o⟩
  case negzero | half | rate | concert => exact phaseIncrementFor_eq_of_zero (by decide) o (by decide)
  case number =>
    rw [exec_phinc, phaseIncrementFor_eq h _ o, s.entropy.afterPhinc_of_number h]

/-! ### Their frame through the host window -/

/-- What a query command leaves: all but `RESULT` and the record of the entropy source. -/
theorem query_cases {i : Instr} {s t : State} (hi : i = .sineat ∨ i = .sawat ∨ i = .phinc) (h : exec i s = .next t) :
    ∃ r e, t = { s with result := r, entropy := e } := by
  obtain rfl | rfl | rfl := hi
  · rw [exec_sineat] at h
    exact ⟨_, _, (Host.Outcome.next.inj h).symm⟩
  · rw [exec_sawat] at h
    exact ⟨_, _, (Host.Outcome.next.inj h).symm⟩
  · rw [exec_phinc] at h
    exact ⟨_, _, (Host.Outcome.next.inj h).symm⟩

/-- Two states with the same voices, buffer and parameters read the same at every address whose control word, where it
has one, is the same. -/
theorem State.readWord_congr {s t : State} {a : Addr} (hvoices : t.voices = s.voices) (hout : t.out = s.out)
    (hparams : t.params = s.params)
    (hcontrol : a.toNat % 4 = 0 → a.toNat < 0x0100 → t.controlWord (a.toNat / 4) = s.controlWord (a.toNat / 4)) :
    t.readWord a = s.readWord a := by
  by_cases h4 : a.toNat % 4 = 0
  · by_cases hlow : a.toNat < 0x0100
    · have ha : a.toNat = 4 * (a.toNat / 4) := by omega
      rw [t.readWord_of_control ha (by omega), s.readWord_of_control ha (by omega), hcontrol h4 hlow]
    · simp only [State.readWord, hlow, if_false, State.voice, State.pcmWord, State.outEntry, hvoices, hout, hparams]
  · rw [t.readWord_of_misaligned h4, s.readWord_of_misaligned h4]

/-- `RESULT` is control word 2, and no other control word shows it or the entropy source. -/
theorem State.controlWord_of_ne_result (s : State) (r : Word) (e : Entropy) :
    ∀ {k : Nat}, k ≠ 2 → State.controlWord { s with result := r, entropy := e } k = s.controlWord k
  | 2, hk => absurd rfl hk
  | 0, _ | 1, _ | 3, _ | 4, _ | 5, _ | 6, _ | 7, _ | 8, _ | 9, _ | _ + 10, _ => rfl

theorem State.readWord_of_ne_result (s : State) (r : Word) (e : Entropy) {a : Addr} (ha : a ≠ 0x0008#16) :
    State.readWord { s with result := r, entropy := e } a = s.readWord a := by
  refine State.readWord_congr rfl rfl rfl fun h4 _ => s.controlWord_of_ne_result r e fun hk => ha ?_
  exact BitVec.eq_of_toNat_eq (show a.toNat = 8 by omega)

/-- The address of the word that holds a byte. -/
theorem toNat_sub_mod_four (a : Addr) : (a - BitVec.ofNat 16 (a.toNat % 4)).toNat = a.toNat - a.toNat % 4 := by
  have ha := a.isLt
  have hmod : (BitVec.ofNat 16 (a.toNat % 4) : Addr).toNat = a.toNat % 4 := toNat_addr (by omega)
  rw [BitVec.toNat_sub_of_le (BitVec.le_def.2 (by omega)), hmod]

theorem State.readByteView_of_ne_result (s : State) (r : Word) (e : Entropy) {a : Addr}
    (ha : ¬ (0x0008 ≤ a.toNat ∧ a.toNat < 0x000C)) :
    State.readByteView { s with result := r, entropy := e } a = s.readByteView a := by
  rw [State.readByteView, s.readWord_of_ne_result r e, ← State.readByteView]
  intro hbase
  have h8 : a.toNat - a.toNat % 4 = 8 := by rw [← toNat_sub_mod_four, hbase]; rfl
  omega

/-- Settles O36: `RESULT` is one word of the window, and the entropy source is none. -/
theorem queryWindowFrame : Obligations.QueryWindowFrame := by
  intro i s t hi h
  obtain ⟨r, e, rfl⟩ := query_cases hi h
  exact ⟨fun _ => s.readWord_of_ne_result r e, fun _ => s.readByteView_of_ne_result r e, rfl, rfl, rfl⟩

end Sys2Proof.Machine
end

section
/-! PROOFS. The secondary frequency is a number (R100, R122, R123): `cents2ratio` is no NaN within the range of its law,
which the inharmonicity of every pitch and draw stays in, and the doubled primary frequency is finite and not 0. -/

namespace Sys2Proof.Machine

/-! ### Where no NaN is made -/

/-- A product with a finite factor that is not 0 is no NaN unless the other factor is one. -/
theorem isNaN_fmul {a b : F32} (ha : isFinite a = true) (h0 : mag a ≠ 0) (hb : isNaN b = false) :
    isNaN (fmul a b) = false := by
  rw [fmul, isNaN_of_isFinite ha, hb, isInf_of_isFinite ha, Bool.or_self, Bool.false_or, if_neg Bool.false_ne_true]
  split
  · next hinf =>
    have hb0 : mag b ≠ 0 := by
      rw [mag_eq_magOf, (isInf_iff b).1 hinf, magOf_inf]
      norm_num
    rw [if_neg (not_or.2 ⟨h0, hb0⟩)]
    exact isNaN_ofMag _ le_rfl
  · exact isNaN_roundF ..

theorem isNaN_cents2ratioReference {x : F32} (h : isNaN x = false) : isNaN (cents2ratioReference x) = false := by
  rw [cents2ratioReference, h, if_neg Bool.false_ne_true]
  split
  · exact isNaN_ofMag _ le_rfl
  · split
    · exact isNaN_of_isFinite isFinite_fzero
    · exact isNaN_roundF ..

theorem isNaN_of_centsLaw {x r : F32} (h : centsLaw x r = true) : isNaN r = false := by
  simp only [centsLaw, Bool.and_eq_true] at h
  exact isNaN_of_isFinite h.1.1.2

/-- Within the range of R122 an engine's own value counts only where it keeps the law. -/
theorem isNaN_cents2ratio (p : Params) {x : F32} (h : inCentsRange x = true) : isNaN (p.cents2ratio x) = false := by
  have hx : isNaN x = false := by
    simp only [inCentsRange, fle, Bool.and_eq_true, Bool.not_eq_true'] at h
    exact h.1.1.2
  rw [Params.cents2ratio, h, Bool.not_true]
  split
  · split
    · next hlaw => exact isNaN_of_centsLaw ((Bool.false_or _).symm.trans hlaw)
    · exact isNaN_cents2ratioReference hx
  · exact isNaN_cents2ratioReference hx

/-! ### The entries of the tuning tables (R176 to R178) -/

/-- What lies between two finite patterns in the units of `sval`, as values. -/
theorem bounds_of_sval {lo x hi : F32} (hlo : isFinite lo = true) (hhi : isFinite hi = true) (h1 : sval lo ≤ sval x)
    (h2 : sval x ≤ sval hi) : isFinite x = true ∧ fval lo ≤ fval x ∧ fval x ≤ fval hi := by
  refine ⟨?_, (fval_le_fval ..).2 h1, (fval_le_fval ..).2 h2⟩
  rw [isFinite_iff_mag, mag_eq_natAbs_sval] at hlo hhi ⊢
  omega

/-- The value of a pattern of `n` units of `2^-149`, as a rational number of its own. -/
theorem fval_eq_of_sval {x : F32} (n : Int) {q : ℚ} (h : sval x = n) (hq : (n : ℚ) = q * 2 ^ 149) : fval x = q := by
  rw [fval, h, hq, mul_div_cancel_right₀ _ (by positivity)]

theorem fval_half : fval 0x3F000000#32 = 1 / 2 := fval_eq_of_sval (2 ^ 148) (by decide) (by norm_num)

theorem fval_cTwo : fval cTwo = 2 := fval_eq_of_sval (2 ^ 150) (by decide) (by norm_num)

theorem fval_cInhBase : fval cInhBase = 3 / 2 := fval_eq_of_sval (3 * 2 ^ 148) (by decide) (by norm_num)

theorem isFinite_cTwo : isFinite cTwo = true := by decide

theorem freqEntry_bounds {p : Nat} (hp : p < 256) :
    isFinite (freqEntry p) = true ∧ 1 ≤ fval (freqEntry p) ∧ fval (freqEntry p) ≤ 2 ^ 25 := by
  obtain ⟨hlo, hhi⟩ := between_ends_of_lt_succ sval_freqEntry_lt_succ (Nat.le_of_lt_succ hp)
  have h1 : sval cOne ≤ sval (freqEntry 0) := by decide +kernel
  have h2 : sval (freqEntry 255) ≤ sval 0x4C000000#32 := by decide +kernel
  have htop : fval 0x4C000000#32 = 2 ^ 25 := fval_eq_of_sval (2 ^ 174) (by decide) (by norm_num)
  rw [← htop, ← fval_cOne]
  exact bounds_of_sval isFinite_cOne (by decide) (h1.trans hlo) (hhi.trans h2)

theorem detuneEntry_bounds (i : Slot) :
    isFinite (detuneEntry i.val) = true ∧ 1 / 2 ≤ fval (detuneEntry i.val) ∧ fval (detuneEntry i.val) ≤ 2 := by
  obtain ⟨hlo, hhi⟩ := between_ends_of_lt_succ sval_detuneEntry_lt_succ (Nat.le_of_lt_succ i.isLt)
  have h1 : sval 0x3F000000#32 ≤ sval (detuneEntry 0) := by decide
  have h2 : sval (detuneEntry 13) ≤ sval cTwo := by decide
  rw [← fval_half, ← fval_cTwo]
  exact bounds_of_sval (by decide) isFinite_cTwo (h1.trans hlo) (hhi.trans h2)

theorem log2pEntry_bounds {p : Nat} (hp : p < 256) :
    isFinite (log2pEntry p) = true ∧ -23 / 4 ≤ fval (log2pEntry p) ∧ fval (log2pEntry p) ≤ 31 / 2 := by
  obtain ⟨hlo, hhi⟩ := between_ends_of_lt_succ sval_log2pEntry_lt_succ (Nat.le_of_lt_succ hp)
  have h0 : fval (log2pEntry 0) = -23 / 4 := fval_eq_of_sval (-23 * 2 ^ 147) (by decide +kernel) (by norm_num)
  have h255 : fval (log2pEntry 255) = 31 / 2 := fval_eq_of_sval (31 * 2 ^ 148) (by decide +kernel) (by norm_num)
  rw [← h0, ← h255]
  exact bounds_of_sval (by decide +kernel) (by decide +kernel) hlo hhi

/-! ### The two factors of the secondary frequency -/

theorem primaryFrequency_bounds {p : Nat} (hp : p < 256) (i : Slot) :
    isFinite (primaryFrequency p i) = true ∧ 1 / 2 ≤ fval (primaryFrequency p i) ∧
      fval (primaryFrequency p i) ≤ 2 ^ 26 := by
  obtain ⟨hf, hf1, hf2⟩ := freqEntry_bounds hp
  obtain ⟨hd, hd1, hd2⟩ := detuneEntry_bounds i
  have htop : fval 0x4C800000#32 = 2 ^ 26 := fval_eq_of_sval (2 ^ 175) (by decide) (by norm_num)
  exact (isRN_fmul hf hd).bounds_of_eq (by decide) (by decide) fval_half htop (by nlinarith) (by nlinarith)

/-- The doubled primary frequency of an encodable pitch is finite and at least 1. -/
theorem doubled_primaryFrequency_bounds {p : Nat} (hp : p < 256) (i : Slot) :
    isFinite (fmul cTwo (primaryFrequency p i)) = true ∧ 1 ≤ fval (fmul cTwo (primaryFrequency p i)) := by
  obtain ⟨hf, hf1, hf2⟩ := primaryFrequency_bounds hp i
  have htop : fval 0x4D000000#32 = 2 ^ 27 := fval_eq_of_sval (2 ^ 176) (by decide) (by norm_num)
  obtain ⟨hfin, hge, -⟩ := (isRN_fmul isFinite_cTwo hf).bounds_of_eq isFinite_cOne (by decide) fval_cOne htop
    (by rw [fval_cTwo]; linarith) (by rw [fval_cTwo]; linarith)
  exact ⟨hfin, hge⟩

/-- A jitter draw is a number of at most 1/2 in magnitude. -/
theorem jitterValue_bounds (e : Entropy) : isFinite e.jitterValue = true ∧ |fval e.jitterValue| ≤ 1 / 2 := by
  have hjit : fval cJit ≤ 1 / 2 := by
    rw [← fval_half, fval_le_fval]
    decide
  obtain ⟨hfin, hle⟩ := (fle_fabs_iff (by decide)).1 (holdRange_le cJit _ (by decide))
  exact ⟨hfin, hle.trans hjit⟩

/-- The inharmonicity before the jitter is added (R120). -/
theorem inharmonicityMean_bounds {p : Nat} (hp : p < 256) :
    isFinite (fadd cInhBase (fmul cTwo (log2pEntry p))) = true ∧
      -10 ≤ fval (fadd cInhBase (fmul cTwo (log2pEntry p))) ∧
      fval (fadd cInhBase (fmul cTwo (log2pEntry p))) ≤ 65 / 2 := by
  obtain ⟨hl, hl1, hl2⟩ := log2pEntry_bounds hp
  have hdlo : fval 0xC1380000#32 = -23 / 2 := fval_eq_of_sval (-23 * 2 ^ 148) (by decide) (by norm_num)
  have hdhi : fval 0x41F80000#32 = 31 := fval_eq_of_sval (31 * 2 ^ 149) (by decide) (by norm_num)
  have hslo : fval 0xC1200000#32 = -10 := fval_eq_of_sval (-10 * 2 ^ 149) (by decide) (by norm_num)
  have hshi : fval 0x42020000#32 = 65 / 2 := fval_eq_of_sval (65 * 2 ^ 148) (by decide) (by norm_num)
  obtain ⟨hd, hd1, hd2⟩ := (isRN_fmul isFinite_cTwo hl).bounds_of_eq (by decide) (by decide) hdlo hdhi
    (by rw [fval_cTwo]; linarith) (by rw [fval_cTwo]; linarith)
  exact (isRN_fadd (a := cInhBase) (by decide) hd).bounds_of_eq (by decide) (by decide) hslo hshi
    (by rw [fval_cInhBase]; linarith) (by rw [fval_cInhBase]; linarith)

/-- R122, R123: the inharmonicity of every encodable pitch stays within the range of the law of `cents2ratio`. -/
theorem inCentsRange_inharmonicity {p : Nat} (hp : p < 256) {j : F32} (hj : isFinite j = true)
    (hj2 : |fval j| ≤ 1 / 2) : inCentsRange (inharmonicity p j) = true := by
  obtain ⟨hm, hm1, hm2⟩ := inharmonicityMean_bounds hp
  obtain ⟨hj1, hj2⟩ := abs_le.1 hj2
  have hlo : fval 0xC1300000#32 = -11 := fval_eq_of_sval (-11 * 2 ^ 149) (by decide) (by norm_num)
  have hhi : fval 0x42040000#32 = 33 := fval_eq_of_sval (33 * 2 ^ 149) (by decide) (by norm_num)
  obtain ⟨hi, hi1, hi2⟩ := (isRN_fadd hm hj).bounds (lo := 0xC1300000#32) (hi := 0x42040000#32) (by decide)
    (by decide) (by rw [hlo]; linarith) (by rw [hhi]; linarith)
  rw [inCentsRange, Bool.and_eq_true]
  exact ⟨(fle_iff (by decide) hi).2 hi1, (fle_iff hi (by decide)).2 hi2⟩

/-- Settles O23: neither factor is a NaN, and the first is finite and not 0. -/
theorem secondaryFrequencyIsNumber : Obligations.SecondaryFrequencyIsNumber := by
  intro params p i e hp
  obtain ⟨hfin, hge⟩ := doubled_primaryFrequency_bounds hp i
  obtain ⟨hj, hj2⟩ := jitterValue_bounds e
  exact isNaN_fmul hfin ((fval_ne_zero_iff _).1 (by linarith))
    (isNaN_cents2ratio params (inCentsRange_inharmonicity hp hj hj2))

end Sys2Proof.Machine
end

section
/-! PROOFS. Selection and stealing (R113 to R115), and what `NOTEON` does with the voice pool in each of its three cases
(R112, R125, R128). -/

namespace Sys2Proof.Machine

/-! ### The lowest-index inactive voice (R114) -/

theorem slots_eq_finRange : slots = List.finRange 14 := by decide

theorem firstInactive_eq_some {vs : VoiceFile} {i : Slot} (hi : (voiceAt vs i).active = false)
    (hbelow : ∀ j, j < i → (voiceAt vs j).active = true) : firstInactive vs = some i := by
  rw [firstInactive, slots_eq_finRange, List.find?_eq_some_iff_getElem]
  have hlen : i.val < (List.finRange 14).length := by
    rw [List.length_finRange]
    exact i.isLt
  refine ⟨by rw [hi]; rfl, i.val, hlen, List.getElem_finRange .., fun j hj => ?_⟩
  rw [List.getElem_finRange, hbelow _ hj]
  rfl

theorem firstInactive_eq_none {vs : VoiceFile} (h : ∀ i, (voiceAt vs i).active = true) : firstInactive vs = none := by
  rw [firstInactive, List.find?_eq_none]
  intro i _
  rw [h i]
  decide

/-- Settles O25: step 1 of `Select` finds that voice, and step 2 is not taken. -/
theorem selectLowestInactive : Obligations.SelectLowestInactive := by
  intro vs i hi hbelow
  rw [select, firstInactive_eq_some hi hbelow]

theorem select_eq_quietest {vs : VoiceFile} (h : ∀ i, (voiceAt vs i).active = true) : select vs = quietest vs := by
  rw [select, firstInactive_eq_none h]

/-! ### The quietest, of equally quiet voices the oldest (R115) -/

/-- What the scan minimises: envelope, then age. -/
def stealKey (v : Voice) : ℤ ×ₗ ℕ := toLex (sval v.envelope, v.age.toNat)

/-- Between voices whose envelopes are numbers, stealing goes by the key. -/
theorem stealBefore_iff {a b : Voice} (ha : isNaN a.envelope = false) (hb : isNaN b.envelope = false) :
    stealBefore a b = true ↔ stealKey a < stealKey b := by
  simp [stealBefore, flt, feq, ha, hb, stealKey, Prod.Lex.toLex_lt_toLex]

/-- A scan that moves on to every smaller element ends at a least one. -/
theorem foldl_least {α β : Type} [LinearOrder β] (key : α → β) (l : List α) (b : α) :
    ∀ i ∈ b :: l, key (l.foldl (fun b i => if key i < key b then i else b) b) ≤ key i := by
  induction l generalizing b with
  | nil => simp
  | cons a l ih =>
    intro i hi
    rw [List.foldl_cons]
    have hstep := ih (if key a < key b then a else b)
    rcases List.mem_cons.1 hi with rfl | hi
    · refine (hstep _ List.mem_cons_self).trans ?_
      split
      · next hlt => exact hlt.le
      · exact le_rfl
    · rcases List.mem_cons.1 hi with rfl | hi
      · refine (hstep _ List.mem_cons_self).trans ?_
        split
        · exact le_rfl
        · next hge => exact not_lt.1 hge
      · exact hstep i (List.mem_cons_of_mem _ hi)

/-- The scan over all slots ends at a least key. -/
theorem stealKey_quietest_le {vs : VoiceFile} (h : ∀ i, isNaN (voiceAt vs i).envelope = false) (j : Slot) :
    stealKey (voiceAt vs (quietest vs)) ≤ stealKey (voiceAt vs j) := by
  have hscan : quietest vs = slots.tail.foldl
      (fun b i => if stealKey (voiceAt vs i) < stealKey (voiceAt vs b) then i else b) 0 := by
    simp only [quietest, stealBefore_iff (h _) (h _)]
  rw [hscan]
  exact foldl_least (fun i => stealKey (voiceAt vs i)) slots.tail 0 j (mem_slots j)

/-- A smaller key, as the comparisons of R115 say it. -/
theorem stealKey_lt_iff {a b : Voice} (ha : isNaN a.envelope = false) (hb : isNaN b.envelope = false) :
    stealKey a < stealKey b ↔
      flt a.envelope b.envelope = true ∨ (feq a.envelope b.envelope = true ∧ a.age.toNat < b.age.toNat) := by
  rw [← stealBefore_iff ha hb, stealBefore, Bool.or_eq_true, Bool.and_eq_true, decide_eq_true_iff]

/-- Settles O26: the scan ends at a least key, and no two voices with different ages have the same key. -/
theorem selectQuietestThenOldest : Obligations.SelectQuietestThenOldest := by
  intro s hsound hages hactive j hj
  have hnum (i : Slot) : isNaN (s.voice i).envelope = false :=
    isNaN_of_isFinite ((hsound i).envelope_finite (hactive i)).1
  have halloc (i : Slot) : (s.voice i).everAllocated = true := (hsound i).allocated (hactive i)
  rw [select_eq_quietest hactive] at hj ⊢
  refine (stealKey_lt_iff (hnum _) (hnum j)).1 (lt_of_le_of_ne (stealKey_quietest_le hnum j) fun heq => hj ?_)
  have hage : (s.voice (quietest s.voices)).age.toNat = (s.voice j).age.toNat := congrArg (fun k => (ofLex k).2) heq
  exact hages.distinct j _ (halloc j) (halloc _) (BitVec.eq_of_toNat_eq hage.symm)

/-! ### The three cases of `NOTEON` (R112) -/

theorem exec_noteon_zero (s : State) (p : Nat) : exec (.noteon p 0) s = .next (s.setResult noVoiceWord) := by
  rw [exec, execNoteon, if_pos rfl]

theorem exec_noteon_agewrap {s : State} {v : Nat} (hv : v ≠ 0) (hctr : s.agectr = 0xFFFFFFFF#32) (p : Nat) :
    exec (.noteon p v) s = .next (s.raiseFault .agewrap (encode (.noteon p v))) :=
  (if_neg hv).trans (if_pos hctr)

theorem exec_noteon_allocate {s : State} {v : Nat} (hv : v ≠ 0) (hctr : s.agectr ≠ 0xFFFFFFFF#32) (p : Nat) :
    exec (.noteon p v) s = .next (s.allocate p) :=
  (if_neg hv).trans (if_neg hctr)

/-- Settles O28: the three cases of `NOTEON` read the velocity in the test for 0 and in the recorded word alone. -/
theorem velocityIsTestedForZeroOnly : Obligations.VelocityIsTestedForZeroOnly := by
  refine ⟨exec_noteon_zero, fun s p v w hv hw => ?_⟩
  by_cases hctr : s.agectr = 0xFFFFFFFF#32
  · exact ⟨_, exec_noteon_agewrap hv hctr p, .inr ⟨hctr, exec_noteon_agewrap hw hctr p⟩⟩
  · exact ⟨_, exec_noteon_allocate hv hctr p, .inl ⟨hctr, exec_noteon_allocate hw hctr p⟩⟩

/-! ### The draws (R121, R146, R193) -/

/-- Settles O32: what `holdRange` lets through has a magnitude within a finite limit, so it is finite. -/
theorem drawsStayInRange : Obligations.DrawsStayInRange := fun e =>
  ⟨isNaN_of_isFinite (jitterValue_bounds e).1, holdRange_le cJit _ (by decide),
    isNaN_of_isFinite ((fle_fabs_iff isFinite_cOne).1 (noiseValue_le e)).1, noiseValue_le e⟩

/-! ### Allocation (R112, R124) -/

theorem State.voice_allocate_same (s : State) (p : Nat) :
    (s.allocate p).voice (select s.voices) =
      allocatedVoice s.params (Config.freePhaseInc s.entropy.unspecified) p (select s.voices) s.entropy.jitterValue
        s.agectr := by
  rw [State.voice_allocate, if_pos rfl]

theorem State.voice_allocate_ne (s : State) (p : Nat) {j : Slot} (h : j ≠ select s.voices) :
    (s.allocate p).voice j = s.voice j := by
  rw [State.voice_allocate, if_neg h.symm]

/-- Settles O22: the voice an allocation writes, field by field; neither increment uses the free value of a NaN. -/
theorem noteonAllocatesVoice : Obligations.NoteonAllocatesVoice := by
  intro s p v hp _ hv hctr
  refine ⟨s.allocate p, exec_noteon_allocate hv hctr p, ?_⟩
  obtain ⟨hf1, -⟩ := primaryFrequency_bounds hp (select s.voices)
  dsimp only
  rw [State.voice_allocate_same]
  exact ⟨rfl, rfl, fun o => phaseIncrementFor_eq (isNaN_of_isFinite hf1) _ o, rfl,
    fun hf2 o => phaseIncrementFor_eq hf2 _ o, rfl, rfl, rfl, rfl, rfl, rfl, rfl, rfl, rfl, rfl,
    toNat_add_one_of_ne hctr, rfl, fun _ => s.voice_allocate_ne p, rfl, rfl, rfl, rfl, rfl, rfl, rfl, rfl⟩

/-- Settles O27: the lowest-index inactive voice is `k`, and the allocation makes it active. -/
theorem idlePoolFillsInOrder : Obligations.IdlePoolFillsInOrder := by
  intro s k p v hk hv hctr hactive
  have hsel : select s.voices = ⟨k, hk⟩ := selectLowestInactive _ _
    (Bool.eq_false_iff.2 fun h => lt_irrefl k ((hactive _).1 h)) fun j hj => (hactive j).2 hj
  refine ⟨s.allocate p, exec_noteon_allocate hv hctr p, by rw [State.result_allocate, hsel]; rfl, fun i => ?_⟩
  by_cases hi : i = select s.voices
  · rw [hi, State.voice_allocate_same, hsel]
    exact iff_of_true rfl (Nat.lt_succ_self k)
  · rw [s.voice_allocate_ne p hi, hactive i]
    have hne : i.val ≠ k := fun h => hi (hsel ▸ Fin.ext h)
    omega

/-! ### The frame of `NOTEON` through the host window (R208) -/

/-- The slot that an address of the voice window shows, by the range of the slot's 16 words (R66). -/
theorem windowSlot_eq_iff {n : Nat} (h1 : 0x0100 ≤ n) (h2 : n < 0x0480) (i : Slot) :
    windowSlot (n - 0x0100) = i ↔ 0x0100 + 0x40 * i.val ≤ n ∧ n < 0x0100 + 0x40 * i.val + 0x40 := by
  have hslot : (windowSlot (n - 0x0100)).val = (n - 0x0100) / 0x40 :=
    Nat.mod_eq_of_lt (show (n - 0x0100) / 0x40 < 14 by omega)
  rw [Fin.ext_iff, hslot]
  omega

/-- Two states that differ in one voice and in control words read the same elsewhere. -/
theorem State.readWord_congr_of_ne_voice {s t : State} {a : Addr} (i : Slot)
    (hvoices : ∀ j, j ≠ i → t.voice j = s.voice j) (hout : t.out = s.out) (hparams : t.params = s.params)
    (hcontrol : a.toNat % 4 = 0 → a.toNat < 0x0100 → t.controlWord (a.toNat / 4) = s.controlWord (a.toNat / 4))
    (ha : ¬ (0x0100 + 0x40 * i.val ≤ a.toNat ∧ a.toNat < 0x0100 + 0x40 * i.val + 0x40)) :
    t.readWord a = s.readWord a := by
  by_cases h4 : a.toNat % 4 = 0
  · by_cases hlow : a.toNat < 0x0100
    · have hk : a.toNat = 4 * (a.toNat / 4) := by omega
      rw [t.readWord_of_control hk (by omega), s.readWord_of_control hk (by omega), hcontrol h4 hlow]
    · by_cases hhigh : a.toNat < 0x0480
      · have hslot : windowSlot (a.toNat - 0x0100) ≠ i := mt (windowSlot_eq_iff (by omega) hhigh i).1 ha
        simp only [State.readWord, hlow, hhigh, if_false, if_true, hvoices _ hslot]
      · simp only [State.readWord, hlow, hhigh, if_false, State.pcmWord, State.outEntry, hout, hparams]
  · rw [t.readWord_of_misaligned h4, s.readWord_of_misaligned h4]

theorem State.readWord_setResult (s : State) (w : Word) {a : Addr} (ha : a ≠ 0x0008#16) :
    (s.setResult w).readWord a = s.readWord a :=
  s.readWord_of_ne_result w s.entropy ha

/-- `STATUS` and `FAULTCMD` are control words 3 and 9. -/
theorem State.controlWord_raiseFault (s : State) (c : Cause) (w : Word) :
    ∀ {k : Nat}, k ≠ 3 → k ≠ 9 → (s.raiseFault c w).controlWord k = s.controlWord k
  | 3, h, _ => absurd rfl h
  | 9, _, h => absurd rfl h
  | 0, _, _ | 1, _, _ | 2, _, _ | 4, _, _ | 5, _, _ | 6, _, _ | 7, _, _ | 8, _, _ | _ + 10, _, _ => rfl

theorem State.readWord_raiseFault (s : State) (c : Cause) (w : Word) {a : Addr} (hstatus : a ≠ 0x000C#16)
    (hcmd : a ≠ 0x0024#16) : (s.raiseFault c w).readWord a = s.readWord a := by
  refine State.readWord_congr rfl rfl rfl fun h4 _ => s.controlWord_raiseFault c w ?_ ?_
  · exact fun hk => hstatus (BitVec.eq_of_toNat_eq (show a.toNat = 0x0C by omega))
  · exact fun hk => hcmd (BitVec.eq_of_toNat_eq (show a.toNat = 0x24 by omega))

/-- `RESULT` and `AGECTR` are control words 2 and 5. -/
theorem State.controlWord_allocate (s : State) (p : Nat) :
    ∀ {k : Nat}, k ≠ 2 → k ≠ 5 → (s.allocate p).controlWord k = s.controlWord k
  | 2, h, _ => absurd rfl h
  | 5, _, h => absurd rfl h
  | 0, _, _ | 1, _, _ | 3, _, _ | 4, _, _ | 6, _, _ | 7, _, _ | 8, _, _ | 9, _, _ | _ + 10, _, _ => rfl

theorem State.readWord_allocate (s : State) (p : Nat) {a : Addr} (hresult : a ≠ 0x0008#16) (hctr : a ≠ 0x0014#16)
    (ha : ¬ (0x0100 + 0x40 * (select s.voices).val ≤ a.toNat ∧
      a.toNat < 0x0100 + 0x40 * (select s.voices).val + 0x40)) :
    (s.allocate p).readWord a = s.readWord a := by
  refine State.readWord_congr_of_ne_voice _ (fun _ => s.voice_allocate_ne p) rfl rfl
    (fun h4 _ => s.controlWord_allocate p ?_ ?_) ha
  · exact fun hk => hresult (BitVec.eq_of_toNat_eq (show a.toNat = 0x08 by omega))
  · exact fun hk => hctr (BitVec.eq_of_toNat_eq (show a.toNat = 0x14 by omega))

/-- Settles O24: the frame of each of the three cases of `NOTEON`. -/
theorem noteonWindowFrame : Obligations.NoteonWindowFrame := by
  intro s t p v a h
  dsimp only
  by_cases hv : v = 0
  · subst hv
    rw [exec_noteon_zero] at h
    obtain rfl := Host.Outcome.next.inj h
    exact ⟨fun ha _ _ _ _ => s.readWord_setResult _ ha, fun _ => s.readWord_setResult _, absurd rfl, absurd rfl⟩
  · by_cases hctr : s.agectr = 0xFFFFFFFF#32
    · rw [exec_noteon_agewrap hv hctr] at h
      obtain rfl := Host.Outcome.next.inj h
      exact ⟨fun _ hstatus _ hcmd _ => s.readWord_raiseFault _ _ hstatus hcmd, (absurd · hv),
        fun _ _ => s.readWord_raiseFault _ _, fun _ hfree => absurd hctr hfree⟩
    · rw [exec_noteon_allocate hv hctr] at h
      obtain rfl := Host.Outcome.next.inj h
      refine ⟨fun hresult _ hage _ => s.readWord_allocate p hresult hage, (absurd · hv),
        fun _ hend => absurd hend hctr, fun _ _ ha => ?_⟩
      have hlow : a.toNat < 0x0100 := by obtain rfl | rfl := ha <;> decide
      exact s.readWord_allocate p (by obtain rfl | rfl := ha <;> decide) (by obtain rfl | rfl := ha <;> decide)
        fun hin => by omega

end Sys2Proof.Machine
end

section
/-! PROOFS. The reference `cents2ratio` keeps the law of R122 over the reals. The fixed-point value of `2^f`, with `f`
the fractional part of the exponent, is within `2^-60` of the power, relative to it, and one rounding moves it by at
most `1 / (2^24 + 1)`; both together stay within `2^-24`. -/

namespace Sys2Proof.Machine

/-! ### The relative error of one rounding (R11) -/

/-- Rounding a number from `2^23` units up moves it by at most `1 / (2^24 + 1)` of itself: the error is at most half a
unit `2^k`, and at most the distance to the least number `2^23 * 2^k` of the binade. -/
theorem roundMag_relative_error {num den : Nat} (hd : 0 < den) (hnum : 2 ^ 23 ≤ num / den)
    (hfin : roundMag num den < 0x7F800000) :
    |(magOf (roundMag num den) : ℚ) - num / den| * (2 ^ 24 + 1) ≤ num / den := by
  have hdQ : (0 : ℚ) < den := by exact_mod_cast hd
  obtain ⟨r, hr, hround⟩ := roundMag_nearestPattern num hd
  obtain ⟨herr1, herr2⟩ := roundMag_error hd hfin
  have hlog : 2 ^ (Nat.log2 (num / den) - 23 + 23) ≤ num / den := by
    have hle : 23 ≤ Nat.log2 (num / den) := (Nat.le_log2 (by omega)).2 hnum
    rw [Nat.sub_add_cancel hle]
    exact Nat.log2_self_le (by omega)
  generalize Nat.log2 (num / den) - 23 = k at herr1 herr2 hlog
  have hleast : |((2 ^ 23 * 2 ^ k : Nat) : ℚ)| = magOf (k * 2 ^ 23 + 2 ^ 23) := by
    rw [magOf_normal le_rfl (by norm_num), Nat.abs_cast]
  have hbinade : ((2 ^ 23 * 2 ^ k : Nat) : ℚ) ≤ num / den := by
    rw [Nat.mul_comm, ← Nat.pow_add]
    exact (Nat.cast_le.2 hlog).trans Nat.cast_div_le
  have hnear : |(magOf (roundMag num den) : ℚ) - num / den| ≤ num / den - (2 ^ 23 * 2 ^ k : Nat) := by
    rw [hround, Nat.min_eq_left (by omega), ← abs_of_nonneg (sub_nonneg.2 hbinade), abs_sub_comm ((num : ℚ) / den)]
    exact hr.abs_sub_le hleast
  have hhalf : |(magOf (roundMag num den) : ℚ) - num / den| ≤ 2 ^ k / 2 := by
    have h1 : (2 * (magOf (roundMag num den) * den) : ℚ) ≤ 2 * num + den * 2 ^ k := by exact_mod_cast herr1
    have h2 : (2 * num : ℚ) ≤ 2 * (magOf (roundMag num den) * den) + den * 2 ^ k := by exact_mod_cast herr2
    rw [← mul_div_cancel_right₀ (magOf (roundMag num den) : ℚ) hdQ.ne', ← sub_div, abs_div, abs_of_pos hdQ,
      div_le_iff₀ hdQ, abs_le]
    constructor <;> linarith
  push_cast at hnear
  linarith

/-! ### The exponential series in fixed point -/

/-- The exact term `v^j / j!` of the series of `exp`, in the units of the fixed point. -/
noncomputable def expTerm (v : ℝ) (j : Nat) : ℝ := 2 ^ fixBits * v ^ j / j.factorial

theorem expTerm_succ (v : ℝ) (j : Nat) : expTerm v (j + 1) = expTerm v j * v / (j + 1) := by
  rw [expTerm, expTerm, Nat.factorial_succ]
  push_cast
  rw [pow_succ]
  field_simp

theorem natCast_div_bounds (a b : Nat) : (a : ℝ) / b - 1 ≤ (a / b : Nat) ∧ ((a / b : Nat) : ℝ) ≤ a / b := by
  rw [← Nat.floor_div_eq_div (K := ℝ)]
  exact ⟨(Nat.sub_one_lt_floor _).le, Nat.floor_le (by positivity)⟩

/-- Each term of the series is computed to within 4 units, all roundings being down: the error of a term is at most
`3/4` of that of the term before it, and 1. -/
theorem expSeries_bounds {u : Nat} {v : ℝ} (hu : (u : ℝ) = 2 ^ fixBits * v) (hv : v ≤ 3 / 4) (fuel j term : Nat)
    (hlo : expTerm v j - 4 ≤ term) (hhi : term ≤ expTerm v j) :
    ∑ m ∈ Finset.range fuel, expTerm v (j + m) - 4 * fuel ≤ expSeries u fuel j term ∧
      expSeries u fuel j term ≤ ∑ m ∈ Finset.range fuel, expTerm v (j + m) := by
  have hv0 : 0 ≤ v := by
    have h : 0 ≤ 2 ^ fixBits * v := hu ▸ u.cast_nonneg
    exact nonneg_of_mul_nonneg_right h (by positivity)
  induction fuel generalizing j term with
  | zero => simp [expSeries]
  | succ fuel ih =>
    have hj : (0 : ℝ) ≤ j := j.cast_nonneg
    have hexact : ((term * u : Nat) : ℝ) / (2 ^ fixBits * (j + 1) : Nat) = term * v / (j + 1) := by
      push_cast
      rw [hu]
      field_simp
    obtain ⟨hdown, hup⟩ := natCast_div_bounds (term * u) (2 ^ fixBits * (j + 1))
    rw [hexact, ← Nat.div_div_eq_div_mul] at hdown hup
    have hscale : 4 * v / (j + 1) ≤ 3 := by
      rw [div_le_iff₀ (by positivity)]
      nlinarith
    have hnext : expTerm v (j + 1) - 4 * v / (j + 1) ≤ term * v / (j + 1) := by
      rw [expTerm_succ, ← sub_div, ← sub_mul]
      gcongr
    obtain ⟨ihlo, ihhi⟩ := ih (j + 1) (term * u / 2 ^ fixBits / (j + 1)) (by linarith)
      (hup.trans (by rw [expTerm_succ]; gcongr))
    simp only [Nat.add_right_comm j 1] at ihlo ihhi
    rw [Finset.sum_range_succ', expSeries]
    push_cast
    simp only [Nat.add_zero, ← Nat.add_assoc]
    constructor <;> linarith

/-- Past its first 64 terms the series of `exp` adds at most `2^-201`. -/
theorem exp_le_partialSum {v : ℝ} (hv0 : 0 ≤ v) (hv : v ≤ 1) :
    Real.exp v ≤ ∑ m ∈ Finset.range 64, v ^ m / m.factorial + 1 / 2 ^ 201 := by
  refine (Real.exp_bound' hv0 hv (n := 64) (by norm_num)).trans (add_le_add_right ?_ _)
  have hpow : v ^ 64 ≤ 1 := pow_le_one₀ hv0 hv
  rw [div_le_iff₀ (by positivity)]
  norm_num [Nat.factorial]
  linarith

/-- The 64 terms of the evaluation stand for `exp` to within `2^-200`. -/
theorem expSeries_near_exp {u : Nat} {v : ℝ} (hu : (u : ℝ) = 2 ^ fixBits * v) (hv0 : 0 ≤ v) (hv : v ≤ 3 / 4) :
    |(expSeries u 64 0 (2 ^ fixBits) : ℝ) / 2 ^ fixBits - Real.exp v| ≤ 1 / 2 ^ 200 := by
  have hfirst : expTerm v 0 = 2 ^ fixBits := by simp [expTerm]
  obtain ⟨hlo, hhi⟩ := expSeries_bounds hu hv 64 0 (2 ^ fixBits) (by rw [hfirst]; push_cast; linarith)
    (by rw [hfirst]; push_cast; exact le_rfl)
  have hsum : ∑ m ∈ Finset.range 64, expTerm v (0 + m) =
      2 ^ fixBits * ∑ m ∈ Finset.range 64, v ^ m / m.factorial := by
    rw [Finset.mul_sum]
    simp only [expTerm, Nat.zero_add, mul_div_assoc]
  rw [hsum] at hlo hhi
  have hbelow := Real.sum_le_exp_of_nonneg hv0 64
  have habove := exp_le_partialSum hv0 (by linarith)
  have hlow : ∑ m ∈ Finset.range 64, v ^ m / m.factorial - 256 / 2 ^ fixBits ≤
      (expSeries u 64 0 (2 ^ fixBits) : ℝ) / 2 ^ fixBits := by
    rw [le_div_iff₀ (by positivity), sub_mul, div_mul_cancel₀ _ (by positivity)]
    push_cast at hlo
    linarith
  have hhigh : (expSeries u 64 0 (2 ^ fixBits) : ℝ) / 2 ^ fixBits ≤ ∑ m ∈ Finset.range 64, v ^ m / m.factorial := by
    rwa [div_le_iff₀' (by positivity)]
  have herr : (256 / 2 ^ fixBits : ℝ) + 1 / 2 ^ 201 ≤ 1 / 2 ^ 200 := by norm_num [fixBits]
  rw [abs_le]
  constructor <;> linarith

/-! ### The fractional part of the exponent -/

/-- `ln2Fixed` is `ln 2` to within `2^-63`: the series of `-log (1 - 1/2)` gives 64 bits of it. -/
theorem ln2Fixed_near_log : |(ln2Fixed : ℝ) / 2 ^ fixBits - Real.log 2| ≤ 1 / 2 ^ 63 := by
  have hfixed : |(ln2Fixed : ℝ) / 2 ^ fixBits - ∑ i ∈ Finset.range 64, (1 / 2 : ℝ) ^ (i + 1) / (i + 1)| ≤
      1 / 2 ^ 64 := by
    rw [abs_le]
    norm_num [Finset.sum_range_succ, ln2Fixed, fixBits]
  have hseries := Real.abs_log_sub_add_sum_range_le (x := 1 / 2) (by norm_num [abs_of_pos]) 64
  have hhalf : Real.log (1 - 1 / 2) = -Real.log 2 := by
    rw [← Real.log_inv]
    norm_num
  have hbound : |(1 / 2 : ℝ)| ^ (64 + 1) / (1 - |1 / 2|) = 1 / 2 ^ 64 := by norm_num [abs_of_pos]
  rw [hhalf, ← sub_eq_add_neg, hbound] at hseries
  exact (abs_sub_le _ _ _).trans ((add_le_add hfixed hseries).trans_eq (by norm_num))

/-- The fractional part of `x / 1200`. -/
noncomputable def centsFrac (x : F32) : ℝ := ((sval x % (centsUnit : Int)).toNat : ℝ) / centsUnit

theorem centsFrac_nonneg (x : F32) : 0 ≤ centsFrac x := by
  unfold centsFrac
  positivity

theorem centsFrac_lt_one (x : F32) : centsFrac x < 1 := by
  have hpos : (0 : Int) < centsUnit := by decide
  have hlt := Int.emod_lt_of_pos (sval x) hpos
  rw [centsFrac, div_lt_one (by exact_mod_cast hpos)]
  exact_mod_cast (show (sval x % (centsUnit : Int)).toNat < centsUnit by omega)

/-- The exponent is its whole part and its fractional part. -/
theorem fval_eq_whole_add_frac (x : F32) : (fval x : ℝ) / 1200 = centsWhole x + centsFrac x := by
  have hrem : ((sval x % (centsUnit : Int)).toNat : ℝ) = (sval x : ℝ) - centsUnit * centsWhole x := by
    have hnonneg : 0 ≤ sval x % (centsUnit : Int) := Int.emod_nonneg _ (by decide)
    have hcast : (((sval x % (centsUnit : Int)).toNat : Int) : ℝ) =
        ((sval x - centsUnit * centsWhole x : Int) : ℝ) := by
      rw [Int.toNat_of_nonneg hnonneg, Int.emod_def, centsWhole]
    exact_mod_cast hcast
  rw [centsFrac, hrem, fval, centsUnit]
  push_cast
  field_simp
  ring

theorem centsPower_eq (x : F32) : centsPower x = 2 ^ centsWhole x * 2 ^ centsFrac x := by
  rw [centsPower, fval_eq_whole_add_frac, Real.rpow_add two_pos, Real.rpow_intCast]

/-- The argument of the series: `f * ln 2` in fixed point. -/
def centsArgument (x : F32) : Nat := (sval x % (centsUnit : Int)).toNat * ln2Fixed / centsUnit

theorem centsFraction_eq (x : F32) : centsFraction x = expSeries (centsArgument x) 64 0 (2 ^ fixBits) := rfl

/-- It is within `2^-62` of `f * ln 2`, and below `3/4`. -/
theorem centsArgument_near (x : F32) :
    (centsArgument x : ℝ) / 2 ^ fixBits ≤ 3 / 4 ∧
      |(centsArgument x : ℝ) / 2 ^ fixBits - Real.log 2 * centsFrac x| ≤ 1 / 2 ^ 62 := by
  obtain ⟨hlo, hhi⟩ := natCast_div_bounds ((sval x % (centsUnit : Int)).toNat * ln2Fixed) centsUnit
  have hexact : (((sval x % (centsUnit : Int)).toNat * ln2Fixed : Nat) : ℝ) / centsUnit = centsFrac x * ln2Fixed := by
    rw [centsFrac]
    push_cast
    ring
  rw [hexact, ← centsArgument, ← div_le_div_iff_of_pos_right (c := 2 ^ fixBits) (by positivity)] at hlo hhi
  rw [sub_div, mul_div_assoc] at hlo
  rw [mul_div_assoc] at hhi
  have hlog := abs_le.1 ln2Fixed_near_log
  have hlog2 := Real.log_two_lt_d9
  have hf0 := centsFrac_nonneg x
  have hf1 := centsFrac_lt_one x
  have hunit : (1 / 2 ^ fixBits : ℝ) ≤ 1 / 2 ^ 63 := by norm_num [fixBits]
  generalize (ln2Fixed : ℝ) / 2 ^ fixBits = ln2 at *
  generalize (centsArgument x : ℝ) / 2 ^ fixBits = v at *
  generalize centsFrac x = f at *
  constructor
  · nlinarith
  · rw [abs_le]
    constructor <;> nlinarith

/-- The fixed-point value of `2^f` is within `2^-60` of it. -/
theorem centsFraction_near (x : F32) :
    |(centsFraction x : ℝ) / 2 ^ fixBits - 2 ^ centsFrac x| ≤ 2 ^ centsFrac x / 2 ^ 60 := by
  obtain ⟨hv, hnear⟩ := centsArgument_near x
  have hseries := expSeries_near_exp (u := centsArgument x) (v := centsArgument x / 2 ^ fixBits)
    (mul_div_cancel₀ _ (by positivity)).symm (by positivity) hv
  rw [← centsFraction_eq] at hseries
  have hshift : Real.exp ((centsArgument x : ℝ) / 2 ^ fixBits) = 2 ^ centsFrac x *
      Real.exp ((centsArgument x : ℝ) / 2 ^ fixBits - Real.log 2 * centsFrac x) := by
    rw [Real.rpow_def_of_pos two_pos, ← Real.exp_add, add_sub_cancel]
  have hone : (1 : ℝ) ≤ 2 ^ centsFrac x := Real.one_le_rpow one_le_two (centsFrac_nonneg x)
  have hfactor := (Real.abs_exp_sub_one_le (hnear.trans (by norm_num))).trans
    (mul_le_mul_of_nonneg_left hnear two_pos.le)
  rw [hshift] at hseries
  generalize Real.exp (_ - _) = factor at hseries hfactor
  generalize (2 : ℝ) ^ centsFrac x = power at *
  have hmoved : |power * factor - power| ≤ power * (2 * (1 / 2 ^ 62)) := by
    rw [← mul_sub_one, abs_mul, abs_of_nonneg (by linarith)]
    gcongr
  have htri := abs_sub_le ((centsFraction x : ℝ) / 2 ^ fixBits) (power * factor) power
  linarith

theorem le_centsFraction (x : F32) : 2 ^ fixBits ≤ centsFraction x :=
  Nat.le_add_right ..

theorem centsFraction_le (x : F32) : centsFraction x ≤ 4 * 2 ^ fixBits := by
  have hnear := (abs_le.1 (centsFraction_near x)).2
  have htwo : (2 : ℝ) ^ centsFrac x ≤ 2 ^ (1 : ℝ) :=
    Real.rpow_le_rpow_of_exponent_le one_le_two (centsFrac_lt_one x).le
  rw [Real.rpow_one] at htwo
  have h : (centsFraction x : ℝ) / 2 ^ fixBits ≤ 4 := by linarith
  rw [div_le_iff₀ (by positivity)] at h
  exact_mod_cast h

/-! ### The reference value and its law (R122) -/

theorem cents2ratioReference_eq {x : F32} (hx : isNaN x = false) (h1 : -200 ≤ centsWhole x)
    (h2 : centsWhole x < 128) :
    cents2ratioReference x = roundF false (centsFraction x * 2 ^ (centsWhole x + 349).toNat) (2 ^ (fixBits + 200)) := by
  rw [cents2ratioReference, hx, if_neg Bool.false_ne_true, if_neg (by omega), if_neg (by omega)]

/-- Within the range of R122 the whole part of the exponent is -1 or 0. -/
theorem centsWhole_of_range {x : F32} (h1 : -11 ≤ fval x) (h2 : fval x ≤ 33) :
    centsWhole x = -1 ∨ centsWhole x = 0 := by
  have hsplit := fval_eq_whole_add_frac x
  have hf0 := centsFrac_nonneg x
  have hf1 := centsFrac_lt_one x
  have hlo : (-11 : ℝ) ≤ fval x := by exact_mod_cast h1
  have hhi : (fval x : ℝ) ≤ 33 := by exact_mod_cast h2
  have hgt : (-2 : ℝ) < centsWhole x := by linarith
  have hlt : (centsWhole x : ℝ) < 1 := by linarith
  have hgt' : -2 < centsWhole x := by exact_mod_cast hgt
  have hlt' : centsWhole x < 1 := by exact_mod_cast hlt
  omega

/-- The number that is rounded, in the units of `fval`. -/
theorem centsExact_eq {x : F32} (h : -349 ≤ centsWhole x) :
    ((centsFraction x * 2 ^ (centsWhole x + 349).toNat : Nat) : ℝ) / (2 ^ (fixBits + 200) : Nat) / 2 ^ 149 =
      2 ^ centsWhole x * (centsFraction x / 2 ^ fixBits) := by
  have hpow : (2 : ℝ) ^ (centsWhole x + 349).toNat = 2 ^ centsWhole x * 2 ^ (200 + 149) := by
    rw [← zpow_natCast, Int.toNat_of_nonneg (by omega), zpow_add₀ two_ne_zero]
    exact congrArg _ (zpow_natCast 2 (200 + 149))
  rw [Nat.cast_mul, Nat.cast_pow, Nat.cast_pow, Nat.cast_ofNat, hpow, div_div, pow_add _ fixBits, mul_assoc, ← pow_add,
    ← mul_assoc, mul_div_mul_right _ _ (by positivity), mul_comm, mul_div_assoc]

/-- It is within `2^-60` of the power, relative to it. -/
theorem centsExact_near (x : F32) :
    |2 ^ centsWhole x * (centsFraction x / 2 ^ fixBits) - centsPower x| ≤ centsPower x / 2 ^ 60 := by
  have hpos : (0 : ℝ) < 2 ^ centsWhole x := by positivity
  rw [centsPower_eq, ← mul_sub, abs_mul, abs_of_pos hpos, mul_div_assoc]
  exact mul_le_mul_of_nonneg_left (centsFraction_near x) hpos.le

section Range
variable {x : F32} (hwhole : centsWhole x = -1 ∨ centsWhole x = 0)
include hwhole

/-- Within the range of R122 the number to be rounded is a normal one, of at most 4. -/
theorem centsExact_bounds :
    2 ^ 23 * 2 ^ (fixBits + 200) ≤ centsFraction x * 2 ^ (centsWhole x + 349).toNat ∧
      centsFraction x * 2 ^ (centsWhole x + 349).toNat ≤ magOf 0x40800000 * 2 ^ (fixBits + 200) := by
  have hbits : fixBits = 256 := rfl
  have hfour : magOf 0x40800000 = 2 ^ 151 := by decide
  constructor
  · refine le_trans ?_ (Nat.mul_le_mul_right _ (le_centsFraction x))
    rw [← Nat.pow_add, ← Nat.pow_add, Nat.pow_le_pow_iff_right one_lt_two]
    omega
  · refine (Nat.mul_le_mul_right _ (centsFraction_le x)).trans ?_
    rw [hfour, show 4 = 2 ^ 2 by rfl, ← Nat.pow_add, ← Nat.pow_add, ← Nat.pow_add, Nat.pow_le_pow_iff_right one_lt_two]
    omega

theorem isFinite_cents2ratioReference (hx : isNaN x = false) : isFinite (cents2ratioReference x) = true := by
  rw [cents2ratioReference_eq hx (by omega) (by omega), isFinite_roundF]
  exact (roundMag_le_of_le (by positivity) (by norm_num) (centsExact_bounds hwhole).2).trans_lt (by norm_num)

/-- The rounding moves the number by at most `1 / (2^24 + 1)` of it. -/
theorem cents2ratioReference_near (hx : isNaN x = false) :
    |(fval (cents2ratioReference x) : ℝ) - 2 ^ centsWhole x * (centsFraction x / 2 ^ fixBits)| * (2 ^ 24 + 1) ≤
      2 ^ centsWhole x * (centsFraction x / 2 ^ fixBits) := by
  have hfin := isFinite_cents2ratioReference hwhole hx
  rw [cents2ratioReference_eq hx (by omega) (by omega)] at hfin ⊢
  rw [isFinite_roundF] at hfin
  rw [← centsExact_eq (by omega)]
  have hden : 0 < 2 ^ (fixBits + 200) := by positivity
  have herr := roundMag_relative_error hden ((Nat.le_div_iff_mul_le hden).2 (centsExact_bounds hwhole).1) hfin
  rw [fval_eq, signBit_roundF, signFactor_false, one_mul, mag_roundF]
  generalize centsFraction x * 2 ^ (centsWhole x + 349).toNat = num at *
  generalize 2 ^ (fixBits + 200) = den at *
  rw [← Rat.cast_le (K := ℝ)] at herr
  push_cast at herr ⊢
  rw [← sub_div, abs_div, abs_of_pos (by positivity : (0 : ℝ) < 2 ^ 149), div_mul_eq_mul_div]
  exact div_le_div_of_nonneg_right herr (by positivity)

end Range

/-- Settles O31: the number that is rounded is within `2^-60` of the power, and the rounding within `1 / (2^24 + 1)`. -/
theorem centsRatioLaw : Obligations.CentsRatioLaw := by
  intro x hx h1 h2
  have hwhole := centsWhole_of_range h1 h2
  refine ⟨isFinite_cents2ratioReference hwhole hx, ?_⟩
  have hround := cents2ratioReference_near hwhole hx
  have hexact := centsExact_near x
  have hsum := abs_sub_le (fval (cents2ratioReference x) : ℝ) (2 ^ centsWhole x * (centsFraction x / 2 ^ fixBits))
    (centsPower x)
  have hexact' := (abs_le.1 hexact).2
  have hpos : 0 ≤ centsPower x := Real.rpow_nonneg two_pos.le _
  rw [zpow_neg, show (2 : ℝ) ^ (24 : ℤ) = 2 ^ 24 by norm_cast]
  generalize 2 ^ centsWhole x * ((centsFraction x : ℝ) / 2 ^ fixBits) = exact at *
  linarith

end Sys2Proof.Machine
end

section
/-! PROOFS. Where the phase increments of high pitches saturate (R127): products of positive values keep order, so one
evaluation at the end of a range of pitches and slots bounds the whole range. -/

namespace Sys2Proof.Machine

/-! ### Products of positive values keep order -/

theorem signBit_of_pos {x : F32} (h : 0 < fval x) : signBit x = false := by
  rw [← Bool.not_eq_true]
  intro hs
  rw [fval_eq, hs, signFactor_true, neg_one_mul, neg_div, neg_pos] at h
  exact absurd h (not_lt.2 (by positivity))

theorem mag_le_mag_of_pos {x y : F32} (h0 : 0 < fval x) (h : fval x ≤ fval y) : mag x ≤ mag y := by
  have hy : 0 < fval y := h0.trans_le h
  rw [← abs_of_pos h0, ← abs_of_pos hy, abs_fval, abs_fval, div_le_div_iff_of_pos_right (by positivity)] at h
  exact_mod_cast h

theorem sval_roundF_false (num den : Nat) : sval (roundF false num den) = magOf (roundMag num den) := by
  rw [sval, signBit_roundF, if_neg Bool.false_ne_true, mag_roundF]

theorem fle_fmul_fmul {a b c d : F32} (ha : isFinite a = true) (hb : isFinite b = true) (hc : isFinite c = true)
    (hd : isFinite d = true) (ha0 : 0 < fval a) (hb0 : 0 < fval b) (hac : fval a ≤ fval c) (hbd : fval b ≤ fval d) :
    fle (fmul a b) (fmul c d) = true := by
  rw [fmul_of_isFinite ha hb, fmul_of_isFinite hc hd, signBit_of_pos ha0, signBit_of_pos hb0,
    signBit_of_pos (ha0.trans_le hac), signBit_of_pos (hb0.trans_le hbd), bne_self_eq_false, fle, isNaN_roundF,
    isNaN_roundF, sval_roundF_false, sval_roundF_false]
  have hprod := Nat.mul_le_mul (mag_le_mag_of_pos ha0 hac) (mag_le_mag_of_pos hb0 hbd)
  have hround := roundMag_mono (Nat.two_pow_pos 149) (Nat.two_pow_pos 149) (Nat.mul_le_mul_right (2 ^ 149) hprod)
  simpa using magOf_strictMono.monotone hround

/-! ### The primary frequency rises with pitch and slot (R119) -/

/-- What rises from each index to the next rises over every distance. -/
theorem le_of_forall_lt_succ {f : Nat → Int} {n i j : Nat} (h : ∀ m < n, f m < f (m + 1)) (hij : i ≤ j) (hj : j ≤ n) :
    f i ≤ f j := by
  have hshift := (between_ends_of_lt_succ (f := fun m => f (i + m)) (n := j - i) (fun m hm => h (i + m) (by omega))
    le_rfl).1
  simpa only [Nat.add_zero, Nat.add_sub_cancel' hij] using hshift

theorem primaryFrequency_mono {p q : Nat} {i j : Slot} (hpq : p ≤ q) (hq : q < 256) (hij : i ≤ j) :
    fle (primaryFrequency p i) (primaryFrequency q j) = true := by
  obtain ⟨hfp, hfp1, -⟩ := freqEntry_bounds (hpq.trans_lt hq)
  obtain ⟨hdi, hdi1, -⟩ := detuneEntry_bounds i
  refine fle_fmul_fmul hfp hdi (freqEntry_bounds hq).1 (detuneEntry_bounds j).1 (by linarith) (by linarith) ?_ ?_
  · exact (fval_le_fval ..).2 (le_of_forall_lt_succ sval_freqEntry_lt_succ hpq (Nat.le_of_lt_succ hq))
  · exact (fval_le_fval ..).2 (le_of_forall_lt_succ sval_detuneEntry_lt_succ hij (Nat.le_of_lt_succ j.isLt))

/-- An increment at least a saturated one is saturated. -/
theorem phaseIncrementFor_eq_last_of_fle {f g : F32} (h : fle f g = true) {o : Word}
    (hf : phaseIncrementFor o f = 0xFFFFFFFF#32) : phaseIncrementFor o g = 0xFFFFFFFF#32 := by
  have hmono := phaseIncrementFor_mono h o
  have hlt := (phaseIncrementFor o g).isLt
  rw [hf] at hmono
  exact BitVec.eq_of_toNat_eq (le_antisymm (Nat.le_of_lt_succ hlt) hmono)

/-- The least pitch and slot that saturate, and the greatest that do not. -/
theorem phaseInc_eq_last_iff {p : Nat} (hp : p < 256) (i : Slot) :
    phaseIncrementFor 0#32 (primaryFrequency p i) = 0xFFFFFFFF#32 ↔ 149 ≤ p := by
  have hfirst : phaseIncrementFor 0#32 (primaryFrequency 149 0) = 0xFFFFFFFF#32 := by decide +kernel
  have hlast : phaseIncrementFor 0#32 (primaryFrequency 148 13) ≠ 0xFFFFFFFF#32 := by decide +kernel
  refine ⟨fun hsat => ?_, fun hge => ?_⟩
  · by_contra hlow
    exact hlast (phaseIncrementFor_eq_last_of_fle
      (primaryFrequency_mono (by omega) (by norm_num) (Fin.le_last i)) hsat)
  · exact phaseIncrementFor_eq_last_of_fle (primaryFrequency_mono hge hp (Fin.zero_le i)) hfirst

/-! ### The secondary frequency of a high pitch (R120, R122, R123) -/

/-- From pitch 69 on, the logarithm being 0 or more, the inharmonicity is no negative number. -/
theorem inharmonicity_nonneg {p : Nat} (h69 : 69 ≤ p) (hp : p < 256) :
    isFinite (inharmonicity p fzero) = true ∧ 0 ≤ fval (inharmonicity p fzero) ∧
      fval (inharmonicity p fzero) ≤ 33 := by
  obtain ⟨hlog, -, hlog2⟩ := log2pEntry_bounds hp
  have hlog1 : 0 ≤ fval (log2pEntry p) := by
    have hzero : sval fzero = sval (log2pEntry 69) := by decide +kernel
    rw [← fval_fzero, fval_le_fval, hzero]
    exact le_of_forall_lt_succ sval_log2pEntry_lt_succ h69 (Nat.le_of_lt_succ hp)
  have h31 : fval 0x41F80000#32 = 31 := fval_eq_of_sval (31 * 2 ^ 149) (by decide) (by norm_num)
  have h33 : fval 0x42040000#32 = 33 := fval_eq_of_sval (33 * 2 ^ 149) (by decide) (by norm_num)
  obtain ⟨hd, hd1, hd2⟩ := (isRN_fmul isFinite_cTwo hlog).bounds_of_eq isFinite_fzero (by decide) fval_fzero h31
    (by rw [fval_cTwo]; linarith) (by rw [fval_cTwo]; linarith)
  obtain ⟨hm, hm1, hm2⟩ := (isRN_fadd (a := cInhBase) (by decide) hd).bounds_of_eq isFinite_fzero (by decide) fval_fzero
    h33 (by rw [fval_cInhBase]; linarith) (by rw [fval_cInhBase]; linarith)
  exact (isRN_fadd hm isFinite_fzero).bounds_of_eq isFinite_fzero (by decide) fval_fzero h33
    (by rw [fval_fzero]; linarith) (by rw [fval_fzero]; linarith)

/-- By the law of R122 the ratio of no negative number of cents is at least `1 - 2^-24`. -/
theorem le_cents2ratioReference {x : F32} (hx : isFinite x = true) (h0 : 0 ≤ fval x) (h1 : fval x ≤ 33) :
    isFinite (cents2ratioReference x) = true ∧ 1 - 1 / 2 ^ 24 ≤ fval (cents2ratioReference x) := by
  obtain ⟨hfin, hlaw⟩ := centsRatioLaw x (isNaN_of_isFinite hx) (by linarith) h1
  have hexp : (0 : ℝ) ≤ (fval x : ℝ) / 1200 := div_nonneg (by exact_mod_cast h0) (by norm_num)
  have hpower : 1 ≤ centsPower x := Real.one_le_rpow one_le_two hexp
  have hlow := (abs_le.1 hlaw).1
  rw [zpow_neg, show (2 : ℝ) ^ (24 : ℤ) = 2 ^ 24 by norm_cast] at hlow
  have hreal : 1 - 1 / 2 ^ 24 ≤ (fval (cents2ratioReference x) : ℝ) := by linarith
  refine ⟨hfin, ?_⟩
  rw [← Rat.cast_le (K := ℝ)]
  push_cast
  exact hreal

theorem phase2Inc_eq_last {p : Nat} (h137 : 137 ≤ p) (hp : p < 256) (i : Slot) :
    phaseIncrementFor 0#32 (secondaryFrequency Params.reference p i fzero) = 0xFFFFFFFF#32 := by
  obtain ⟨hlo, hlo1⟩ := doubled_primaryFrequency_bounds (p := 137) (by norm_num) 0
  obtain ⟨hhi, -⟩ := doubled_primaryFrequency_bounds hp i
  obtain ⟨hprim, hprim1, -⟩ := primaryFrequency_bounds (p := 137) (by norm_num) 0
  obtain ⟨hinh, hinh0, hinh1⟩ := inharmonicity_nonneg (by omega) hp
  obtain ⟨hratio, hratio1⟩ := le_cents2ratioReference hinh hinh0 hinh1
  have hbelow : fval 0x3F7FFFFF#32 = 1 - 1 / 2 ^ 24 :=
    fval_eq_of_sval ((2 ^ 24 - 1) * 2 ^ 125) (by decide) (by norm_num)
  have hrise : fval (primaryFrequency 137 0) ≤ fval (primaryFrequency p i) :=
    (fle_iff hprim (primaryFrequency_bounds hp i).1).1 (primaryFrequency_mono h137 hp (Fin.zero_le i))
  have hdouble : fval (fmul cTwo (primaryFrequency 137 0)) ≤ fval (fmul cTwo (primaryFrequency p i)) :=
    (fle_iff hlo hhi).1 (fle_fmul_fmul isFinite_cTwo hprim isFinite_cTwo (primaryFrequency_bounds hp i).1
      (by rw [fval_cTwo]; norm_num) (by linarith) le_rfl hrise)
  refine phaseIncrementFor_eq_last_of_fle (f := fmul (fmul cTwo (primaryFrequency 137 0)) 0x3F7FFFFF#32) ?_
    (by decide +kernel)
  exact fle_fmul_fmul hlo (by decide) hhi hratio (by linarith) (by rw [hbelow]; norm_num) hdouble (hbelow ▸ hratio1)

/-- Settles O29: both increments rise with the pitch, the second by the law of `cents2ratio`. -/
theorem highPitchSaturates : Obligations.HighPitchSaturates :=
  ⟨fun _ hp i => phaseInc_eq_last_iff hp i, fun _ hp i h137 => phase2Inc_eq_last h137 hp i⟩

end Sys2Proof.Machine
end

section
/-! PROOFS. The envelope generator (42_envelope.md): a step in Attack strictly rises and one in Decay strictly falls, as
each moves the envelope further than the distance between neighbouring patterns. How many frames Attack and the
transient last (R137, R149): the two sequences are monotone, so their values at the last frame bound all earlier ones. -/

namespace Sys2Proof.Machine

/-! ### The distance between neighbouring patterns -/

/-- From the least normal pattern on, neighbouring values differ by at most `2^-23` of their size. -/
theorem magOf_succ_le {u : Nat} (h : 2 ^ 23 ≤ u) : magOf (u + 1) * 2 ^ 23 ≤ magOf u * (2 ^ 23 + 1) := by
  rcases pattern_cases u with hsub | ⟨k, m, rfl, hm, hm'⟩
  · omega
  · rw [Nat.add_assoc, magOf_normal hm hm', magOf_significand (Nat.succ_le_of_lt hm') (fun _ => by omega)]
    calc (m + 1) * 2 ^ k * 2 ^ 23 = ((m + 1) * 2 ^ 23) * 2 ^ k := by ring
      _ ≤ (m * (2 ^ 23 + 1)) * 2 ^ k := Nat.mul_le_mul_right _ (by omega)
      _ = m * 2 ^ k * (2 ^ 23 + 1) := by ring

/-- The pattern `u` without a sign, as a value. -/
theorem isFinite_fval_ofMag {u : Nat} (hu : u < 0x7F800000) :
    isFinite (ofMag false u) = true ∧ fval (ofMag false u) = magOf u / 2 ^ 149 := by
  have h31 : u < 2 ^ 31 := hu.trans (by norm_num)
  rw [isFinite_iff, ofMag_toNat_mod false h31, fval_eq, signBit_ofMag false h31, mag_ofMag false h31, signFactor_false,
    one_mul]
  exact ⟨hu, rfl⟩

/-- A normal value up to 1 has a value on each side of it, within `2^-23` of its size. -/
theorem exists_neighbours {e : F32} (hmin : 1 / 2 ^ 126 < fval e) (hone : fval e ≤ 1) :
    ∃ p q, isFinite p = true ∧ isFinite q = true ∧ fval p < fval e ∧ fval e < fval q ∧
      fval e ≤ fval p * (1 + 1 / 2 ^ 23) ∧ fval q ≤ fval e * (1 + 1 / 2 ^ 23) := by
  have hpos : 0 < fval e := lt_trans (by norm_num) hmin
  have hval : fval e = magOf (e.toNat % 2 ^ 31) / 2 ^ 149 := by
    rw [← mag_eq_magOf, ← abs_fval, abs_of_pos hpos]
  generalize e.toNat % 2 ^ 31 = u at hval
  have hlow : 2 ^ 23 < u := by
    rw [← magOf_strictMono.lt_iff_lt, magOf_of_lt (by norm_num)]
    rw [hval, lt_div_iff₀ (by positivity)] at hmin
    norm_num at hmin
    exact_mod_cast hmin
  have hhigh : u ≤ 0x3F800000 := by
    rw [← magOf_strictMono.le_iff_le, show magOf 0x3F800000 = 2 ^ 149 by decide]
    rw [hval, div_le_one (by positivity)] at hone
    exact_mod_cast hone
  obtain ⟨w, rfl⟩ : ∃ w, u = w + 1 := ⟨u - 1, by omega⟩
  obtain ⟨hp, hpval⟩ := isFinite_fval_ofMag (u := w) (by omega)
  obtain ⟨hq, hqval⟩ := isFinite_fval_ofMag (u := w + 1 + 1) (by omega)
  have hgap (m : Nat) (hm : 2 ^ 23 ≤ m) :
      (magOf (m + 1) : ℚ) / 2 ^ 149 ≤ magOf m / 2 ^ 149 * (1 + 1 / 2 ^ 23) := by
    have h : (magOf (m + 1) : ℚ) * 2 ^ 23 ≤ magOf m * (2 ^ 23 + 1) := by exact_mod_cast magOf_succ_le hm
    rw [div_mul_eq_mul_div, div_le_div_iff_of_pos_right (by positivity)]
    linarith
  have hstep (m : Nat) : (magOf m : ℚ) / 2 ^ 149 < magOf (m + 1) / 2 ^ 149 :=
    div_lt_div_of_pos_right (Nat.cast_lt.2 (magOf_lt_succ m)) (by positivity)
  rw [hval]
  refine ⟨_, _, hp, hq, ?_⟩
  rw [hpval, hqval]
  exact ⟨hstep w, hstep (w + 1), hgap w (by omega), hgap (w + 1) (by omega)⟩

/-! ### One step (R137, R138) -/

theorem fval_cAttack_bounds : 1 / 64 ≤ fval cAttack ∧ fval cAttack ≤ 1 / 4 := by
  rw [fval_cAttack]
  norm_num

/-- Up to `C_THR_HI` the part of the distance to 1 that Attack adds is at least `2^-13`, more than one pattern. -/
theorem lt_attackEnvelope {e : F32} (he : isFinite e = true) (hlo : fval cThrLo ≤ fval e)
    (hhi : fval e ≤ fval cThrHi) : fval e < fval (attackEnvelope e) := by
  rw [fval_cThrLo] at hlo
  rw [fval_cThrHi] at hhi
  obtain ⟨hc, hc'⟩ := fval_cAttack_bounds
  have hd : fval 0x3C000000#32 = 1 / 128 := fval_eq_of_sval (2 ^ 142) (by decide) (by norm_num)
  have hm : fval 0x39000000#32 = 1 / 8192 := fval_eq_of_sval (2 ^ 136) (by decide) (by norm_num)
  obtain ⟨hdist, hdist0, hdist1⟩ := (isRN_fsub isFinite_cOne he).bounds_of_eq (by decide) isFinite_cOne hd fval_cOne
    (by rw [fval_cOne]; linarith) (by rw [fval_cOne]; linarith)
  have hlow : 1 / 128 * (1 / 64) ≤ fval (fsub cOne e) * fval cAttack := by gcongr
  have hhigh : fval (fsub cOne e) * fval cAttack ≤ 1 * (1 / 4) := by gcongr
  obtain ⟨hpart, hpart0, hpart1⟩ := (isRN_fmul hdist isFinite_cAttack).bounds_of_eq (by decide) isFinite_cOne hm
    fval_cOne (by linarith) (by linarith)
  obtain ⟨-, q, -, hq, -, hlt, -, hgap⟩ := exists_neighbours (e := e) (by linarith) (by linarith)
  obtain ⟨-, hle, -⟩ := (isRN_fadd he hpart).bounds hq isFinite_cTwo (by linarith) (by rw [fval_cTwo]; linarith)
  exact hlt.trans_le hle

/-- Up to `1.0` a Decay step lowers the envelope by `476 * 2^-24` of it, which is more than one pattern. -/
theorem fmul_cDecay_lt {e : F32} (he : isFinite e = true) (hlo : fval cThrLo ≤ fval e) (hhi : fval e ≤ 1) :
    isFinite (fmul e cDecay) = true ∧ fval (fmul e cDecay) < fval e := by
  rw [fval_cThrLo] at hlo
  obtain ⟨p, -, hp, -, hlt, -, hgap, -⟩ := exists_neighbours (e := e) (by linarith) hhi
  obtain ⟨hfin, -, hle⟩ := (isRN_fmul he isFinite_cDecay).bounds isFinite_fzero hp
    (by rw [fval_fzero, fval_cDecay]; linarith) (by rw [fval_cDecay]; linarith)
  exact ⟨hfin, hle.trans_lt hlt⟩

/-! ### EnvStep on a voice (R136, R140) -/

theorem attackStep_envelope {v : Voice} (hc : v.attackCoeff = cAttack) :
    (attackStep v).envelope = attackEnvelope v.envelope := by
  rw [attackStep, attackEnvelope, hc]

@[simp] theorem attackStep_active (v : Voice) : (attackStep v).active = v.active := rfl

theorem attackStep_envelopeState (v : Voice) :
    (attackStep v).envelopeState = if fgt (attackStep v).envelope cThrHi = true then .decay else .attack := rfl

theorem attackStep_envelopeState_eq_decay_iff (v : Voice) :
    (attackStep v).envelopeState = .decay ↔ fgt (attackStep v).envelope cThrHi = true := by
  rw [attackStep_envelopeState]
  split <;> simp [*]

theorem decayStep_of_below {v : Voice} (h : flt (fmul v.envelope v.decayCoeff) cThrLo = true) :
    decayStep v = { v with envelope := fzero, active := false } := if_pos h

theorem decayStep_of_not_below {v : Voice} (h : flt (fmul v.envelope v.decayCoeff) cThrLo = false) :
    decayStep v = { v with envelope := fmul v.envelope v.decayCoeff } := if_neg (by rw [h]; exact Bool.false_ne_true)

theorem decayStep_envelopeState (v : Voice) : (decayStep v).envelopeState = v.envelopeState := by
  cases h : flt (fmul v.envelope v.decayCoeff) cThrLo with
  | true => rw [decayStep_of_below h]
  | false => rw [decayStep_of_not_below h]

/-- An Attack step on a voice within the bounds of R140. -/
theorem attackStep_rises {v : Voice} (hc : v.attackCoeff = cAttack) (hlo : fle cThrLo v.envelope = true)
    (hhi : fle v.envelope cThrHi = true) :
    flt v.envelope (attackStep v).envelope = true ∧ 10000 * mag (attackStep v).envelope < 9903 * 2 ^ 149 := by
  have he := isFinite_of_fle isFinite_cThrLo isFinite_cThrHi hlo hhi
  rw [fle_iff isFinite_cThrLo he] at hlo
  rw [fle_iff he isFinite_cThrHi] at hhi
  have hpos : 0 ≤ fval v.envelope := le_trans (by rw [fval_cThrLo]; norm_num) hlo
  obtain ⟨hfin, hge, htop⟩ := attackEnvelope_le he hpos hhi
  rw [attackStep_envelope hc, flt_iff he hfin, envelopeHigh_iff (hpos.trans hge)]
  exact ⟨lt_attackEnvelope he hlo hhi, htop.trans_lt (by rw [fval_attackTop]; norm_num)⟩

/-- The product of a Decay step on a voice within the bounds of R140. -/
theorem flt_fmul_cDecay {e : F32} (hlo : fle cThrLo e = true) (hhi : fle e cOne = true) :
    flt (fmul e cDecay) e = true := by
  have he := isFinite_of_fle isFinite_cThrLo isFinite_cOne hlo hhi
  rw [fle_iff isFinite_cThrLo he] at hlo
  rw [fle_iff he isFinite_cOne, fval_cOne] at hhi
  obtain ⟨hfin, hlt⟩ := fmul_cDecay_lt he hlo hhi
  exact (flt_iff hfin he).2 hlt

/-- Settles O53: one step in each state, by what it adds or takes away against the distance of neighbouring patterns. -/
theorem envelopeSteps : Obligations.EnvelopeSteps := by
  refine ⟨fun v hs hc hlo hhi => ?_, fun v hs hc ha hlo hhi => ?_⟩
  · rw [envStep_of_attack hs]
    obtain ⟨hrise, htop⟩ := attackStep_rises hc hlo hhi
    exact ⟨hrise, htop, attackStep_envelopeState_eq_decay_iff v, attackStep_active v⟩
  · rw [envStep_of_decay hs]
    refine ⟨flt_fmul_cDecay hlo hhi, (decayStep_envelopeState v).trans hs, fun hend => ?_, fun hgo => ?_⟩
    · rw [← hc] at hend
      rw [decayStep_of_below hend]
      exact ⟨rfl, rfl⟩
    · rw [← hc] at hgo ⊢
      rw [decayStep_of_not_below hgo]
      exact ⟨rfl, ha⟩

/-! ### The envelope from an allocation on (R137) -/

/-- From an envelope in `[0, 1]` an Attack step adds no more than the distance to 1: the two roundings before the sum at
most double each, and four times `C_ATTACK` is at most 1. -/
theorem attackPart_bounds {e : F32} (he : isFinite e = true) (h0 : 0 ≤ fval e) (h1 : fval e ≤ 1) :
    isFinite (fmul (fsub cOne e) cAttack) = true ∧ 0 ≤ fval (fmul (fsub cOne e) cAttack) ∧
      fval (fmul (fsub cOne e) cAttack) ≤ 1 - fval e := by
  obtain ⟨hc, hc'⟩ := fval_cAttack_bounds
  have hc0 : 0 ≤ fval cAttack := le_trans (by norm_num) hc
  have hrest : 0 ≤ 1 - fval e := sub_nonneg.2 h1
  have hrest' : |1 - fval e| ≤ 1 := abs_le.2 ⟨by linarith, by linarith⟩
  obtain ⟨hd, a, ha0, ha2, hda⟩ := (isRN_fsub isFinite_cOne he).exists_factor
    (by rw [fval_cOne]; exact hrest'.trans_lt (by norm_num))
  rw [fval_cOne] at hda
  have hproduct : |fval (fsub cOne e) * fval cAttack| ≤ 1 := by
    rw [hda, abs_mul, abs_mul, abs_of_nonneg ha0, abs_of_nonneg hc0]
    calc a * |1 - fval e| * fval cAttack ≤ 2 * 1 * (1 / 4) := by gcongr
      _ ≤ 1 := by norm_num
  obtain ⟨hm, b, hb0, hb2, hmb⟩ := (isRN_fmul hd isFinite_cAttack).exists_factor (hproduct.trans_lt (by norm_num))
  have hpart : fval (fmul (fsub cOne e) cAttack) = b * a * fval cAttack * (1 - fval e) := by
    rw [hmb, hda]
    ring
  have hshare : b * a * fval cAttack ≤ 1 := by
    calc b * a * fval cAttack ≤ 2 * 2 * (1 / 4) := by gcongr
      _ = 1 := by norm_num
  rw [hpart]
  exact ⟨hm, by positivity, mul_le_of_le_one_left hrest hshare⟩

/-- An Attack step from an envelope in `[0, 1]` never lowers it and never passes 1. -/
theorem attackEnvelope_unit {e : F32} (he : isFinite e = true) (h0 : 0 ≤ fval e) (h1 : fval e ≤ 1) :
    isFinite (attackEnvelope e) = true ∧ fval e ≤ fval (attackEnvelope e) ∧ fval (attackEnvelope e) ≤ 1 := by
  obtain ⟨hpart, hpart0, hpart1⟩ := attackPart_bounds he h0 h1
  exact (isRN_fadd he hpart).bounds_of_eq he isFinite_cOne rfl fval_cOne (by linarith) (by linarith)

theorem fval_cEnvInit : fval cEnvInit = fval cThrLo := rfl

/-- The envelopes of Attack stay in `[0, 1]`. -/
theorem attackEnvelope_iterate_unit (k : Nat) : isFinite (attackEnvelope^[k] cEnvInit) = true ∧
    0 ≤ fval (attackEnvelope^[k] cEnvInit) ∧ fval (attackEnvelope^[k] cEnvInit) ≤ 1 := by
  induction k with
  | zero =>
    rw [Function.iterate_zero_apply, fval_cEnvInit, fval_cThrLo]
    exact ⟨by decide, by norm_num, by norm_num⟩
  | succ k ih =>
    obtain ⟨hfin, h0, h1⟩ := ih
    rw [Function.iterate_succ_apply']
    obtain ⟨hfin', hge, hle⟩ := attackEnvelope_unit hfin h0 h1
    exact ⟨hfin', h0.trans hge, hle⟩

theorem attackEnvelope_iterate_mono : Monotone fun k => fval (attackEnvelope^[k] cEnvInit) := by
  refine monotone_nat_of_le_succ fun k => ?_
  obtain ⟨hfin, h0, h1⟩ := attackEnvelope_iterate_unit k
  rw [Function.iterate_succ_apply']
  exact (attackEnvelope_unit hfin h0 h1).2.1

/-- The envelope at frame 227 (R137), evaluated in two halves. -/
theorem attackEnvelope_iterate_227 : attackEnvelope^[227] cEnvInit = 0x3F7D6409#32 := by
  have hfirst : attackEnvelope^[114] cEnvInit = 0x3F666A7B#32 := by decide +kernel
  have hsecond : attackEnvelope^[113] 0x3F666A7B#32 = 0x3F7D6409#32 := by decide +kernel
  rw [show 227 = 113 + 114 from rfl, Function.iterate_add_apply, hfirst, hsecond]

theorem attackEnvelope_iterate_le_thrHi {k : Nat} (hk : k ≤ 227) :
    fgt (attackEnvelope^[k] cEnvInit) cThrHi = false := by
  have hle : fval (attackEnvelope^[k] cEnvInit) ≤ fval cThrHi := by
    refine (attackEnvelope_iterate_mono hk).trans ?_
    dsimp only
    rw [attackEnvelope_iterate_227, fval_le_fval]
    decide
  rw [← Bool.not_eq_true, fgt_iff (attackEnvelope_iterate_unit k).1 isFinite_cThrHi]
  exact hle.not_gt

/-! ### The transient from an allocation on (R149) -/

/-- The transient's envelope after a frame that it runs in (R146). -/
def transientDecay (p : F32) : F32 := fmul p cPdecay

/-- A decay of the transient from an envelope in `[0, 1]` never raises it. -/
theorem transientDecay_bounds {p : F32} (hp : isFinite p = true) (h0 : 0 ≤ fval p) :
    isFinite (transientDecay p) = true ∧ 0 ≤ fval (transientDecay p) ∧ fval (transientDecay p) ≤ fval p :=
  fmul_bounds_of_unit hp isFinite_cPdecay h0 (by rw [fval_cPdecay]; norm_num) (by rw [fval_cPdecay]; norm_num)

theorem transientDecay_iterate_nonneg (k : Nat) :
    isFinite (transientDecay^[k] cOne) = true ∧ 0 ≤ fval (transientDecay^[k] cOne) := by
  induction k with
  | zero =>
    rw [Function.iterate_zero_apply, fval_cOne]
    exact ⟨isFinite_cOne, zero_le_one⟩
  | succ k ih =>
    obtain ⟨hfin, h0, -⟩ := transientDecay_bounds ih.1 ih.2
    rw [Function.iterate_succ_apply']
    exact ⟨hfin, h0⟩

theorem transientDecay_iterate_anti : Antitone fun k => fval (transientDecay^[k] cOne) := by
  refine antitone_nat_of_succ_le fun k => ?_
  obtain ⟨hfin, h0⟩ := transientDecay_iterate_nonneg k
  rw [Function.iterate_succ_apply']
  exact (transientDecay_bounds hfin h0).2.2

/-- The transient's envelope after 568 frames (R149), evaluated in two halves. -/
theorem transientDecay_iterate_568 : transientDecay^[568] cOne = 0x38D3EC18#32 := by
  have hfirst : transientDecay^[284] cOne = 0x3C24B330#32 := by decide +kernel
  have hsecond : transientDecay^[284] 0x3C24B330#32 = 0x38D3EC18#32 := by decide +kernel
  rw [show 568 = 284 + 284 from rfl, Function.iterate_add_apply, hfirst, hsecond]

theorem thrLo_lt_transientDecay_iterate {k : Nat} (hk : k < 569) : fgt (transientDecay^[k] cOne) cThrLo = true := by
  rw [fgt_iff (transientDecay_iterate_nonneg k).1 isFinite_cThrLo]
  refine lt_of_lt_of_le ?_ (transientDecay_iterate_anti (Nat.le_of_lt_succ hk))
  dsimp only
  rw [transientDecay_iterate_568, fval_lt_fval]
  decide

/-! ### The frames of a voice (R155, R218) -/

/-- A frame in Attack is one Attack step to the envelope, whatever it draws. -/
theorem frameVoice_of_attack {v : Voice} (hs : v.envelopeState = .attack) (hc : v.attackCoeff = cAttack) (e : Entropy) :
    (frameVoice v e).envelope = attackEnvelope v.envelope ∧
      (frameVoice v e).envelopeState = if fgt (attackEnvelope v.envelope) cThrHi = true then .decay else .attack := by
  have hframe := frameVoice_sameEnvelope_envStep v e
  rw [envStep_of_attack hs] at hframe
  rw [hframe.envelope, hframe.envelopeState, attackStep_envelopeState, attackStep_envelope hc]
  exact ⟨rfl, rfl⟩

theorem frameVoice_pluckEnvelope (v : Voice) (e : Entropy) : (frameVoice v e).pluckEnvelope =
    if pluckRuns v = true then fmul v.pluckEnvelope v.pluckDecayCoeff else v.pluckEnvelope := by
  rw [frameVoice, envStep_pluckEnvelope, advancePhases, pluckVoice]
  split <;> rfl

/-- The envelope that the transient is left with does not exceed `C_THR_LO` (R148). -/
theorem pluckRuns_of_last {v : Voice} (h : v.pluckEnvelope = 0x38D08474#32) : pluckRuns v = false := by
  have hbelow : fgt 0x38D08474#32 cThrLo = false := by decide
  rw [pluckRuns, h, hbelow]

section Frames

variable {v : Nat → Voice} {e : Nat → Entropy} (hv : ∀ k, v (k + 1) = frameVoice (v k) (e k))
include hv

theorem frames_sameTuning (k : Nat) : SameTuning (v 0) (v k) := by
  induction k with
  | zero => exact SameTuning.refl _
  | succ k ih =>
    rw [hv]
    exact ih.trans (frameVoice_sameTuning _ _)

/-- The envelope through frame 227. -/
theorem attack_frames (henv : (v 0).envelope = cEnvInit) (hs : (v 0).envelopeState = .attack)
    (hc : (v 0).attackCoeff = cAttack) {k : Nat} (hk : k ≤ 227) :
    (v k).envelopeState = .attack ∧ (v k).envelope = attackEnvelope^[k] cEnvInit := by
  induction k with
  | zero => exact ⟨hs, henv⟩
  | succ k ih =>
    obtain ⟨hsk, henvk⟩ := ih (by omega)
    obtain ⟨henv', hs'⟩ := frameVoice_of_attack hsk ((frames_sameTuning hv k).attackCoeff.trans hc) (e k)
    rw [henvk, ← Function.iterate_succ_apply' attackEnvelope] at henv' hs'
    rw [attackEnvelope_iterate_le_thrHi hk, if_neg Bool.false_ne_true] at hs'
    rw [hv]
    exact ⟨hs', henv'⟩

/-- At frame 228 the envelope exceeds `C_THR_HI` for the first time. -/
theorem attack_ends (henv : (v 0).envelope = cEnvInit) (hs : (v 0).envelopeState = .attack)
    (hc : (v 0).attackCoeff = cAttack) : (v 228).envelopeState = .decay ∧ (v 228).envelope = 0x3F7D7165#32 := by
  have hlast : attackEnvelope 0x3F7D6409#32 = 0x3F7D7165#32 := by decide +kernel
  have hover : fgt 0x3F7D7165#32 cThrHi = true := by decide
  obtain ⟨hs227, henv227⟩ := attack_frames hv henv hs hc le_rfl
  obtain ⟨henv', hs'⟩ := frameVoice_of_attack hs227 ((frames_sameTuning hv 227).attackCoeff.trans hc) (e 227)
  rw [henv227, attackEnvelope_iterate_227, hlast] at henv' hs'
  rw [hover, if_pos rfl] at hs'
  rw [hv]
  exact ⟨hs', henv'⟩

/-- The transient's envelope while it runs. -/
theorem transient_frames (hp : (v 0).pluckEnvelope = cOne) (hc : (v 0).pluckDecayCoeff = cPdecay) {k : Nat}
    (hk : k ≤ 569) : (v k).pluckEnvelope = transientDecay^[k] cOne := by
  induction k with
  | zero => exact hp
  | succ k ih =>
    have hpk := ih (by omega)
    have hruns : pluckRuns (v k) = true := by
      rw [pluckRuns, hpk]
      exact thrLo_lt_transientDecay_iterate hk
    rw [hv, frameVoice_pluckEnvelope, if_pos hruns, hpk, (frames_sameTuning hv k).pluckDecayCoeff.trans hc,
      Function.iterate_succ_apply', transientDecay]

/-- From frame 569 on the transient is frozen. -/
theorem transient_frozen (hp : (v 0).pluckEnvelope = cOne) (hc : (v 0).pluckDecayCoeff = cPdecay) {k : Nat}
    (hk : 569 ≤ k) : (v k).pluckEnvelope = 0x38D08474#32 := by
  induction k, hk using Nat.le_induction with
  | base =>
    have hlast : transientDecay 0x38D3EC18#32 = 0x38D08474#32 := by decide +kernel
    rw [transient_frames hv hp hc le_rfl, Function.iterate_succ_apply', transientDecay_iterate_568, hlast]
  | succ k _ ih => rw [hv, frameVoice_pluckEnvelope, pluckRuns_of_last ih, if_neg Bool.false_ne_true, ih]

/-- The transient runs in exactly the first 569 frames. -/
theorem pluckRuns_frames_iff (hp : (v 0).pluckEnvelope = cOne) (hc : (v 0).pluckDecayCoeff = cPdecay) (k : Nat) :
    pluckRuns (v k) = true ↔ k < 569 := by
  rcases Nat.lt_or_ge k 569 with hk | hk
  · refine iff_of_true ?_ hk
    rw [pluckRuns, transient_frames hv hp hc hk.le]
    exact thrLo_lt_transientDecay_iterate hk
  · rw [pluckRuns_of_last (transient_frozen hv hp hc hk)]
    exact iff_of_false Bool.false_ne_true hk.not_gt

end Frames

/-- Settles O54: the envelope rises to its value at frame 227 and the transient falls to its value at frame 568, and
neither depends on a draw. -/
theorem durationsInFrames : Obligations.DurationsInFrames := by
  refine fun v e hv => ⟨fun henv hs hc => ?_, fun hp hc => ?_⟩
  · have hframes {k : Nat} (hk : k ≤ 227) := attack_frames hv henv hs hc hk
    exact ⟨fun k hk => (hframes (Nat.le_of_lt_succ hk)).1, (hframes le_rfl).2.trans attackEnvelope_iterate_227,
      attack_ends hv henv hs hc⟩
  · exact ⟨pluckRuns_frames_iff hv hp hc, (transient_frames hv hp hc (by norm_num)).trans transientDecay_iterate_568,
      fun k hk => transient_frozen hv hp hc hk⟩

end Sys2Proof.Machine
end

section
/-! PROOFS. A frozen transient (43_pluck.md, R148): `PluckStep` alone writes the transient, and a frozen one it leaves, so
that every frame of a block leaves it frozen. -/

namespace Sys2Proof.Machine

/-- Two voices have the same transient, in the fields that `PluckStep` writes (R145). -/
structure SameTransient (v w : Voice) : Prop where
  pluckEnvelope : w.pluckEnvelope = v.pluckEnvelope
  pluckFilterState : w.pluckFilterState = v.pluckFilterState

theorem SameTransient.refl (v : Voice) : SameTransient v v := ⟨rfl, rfl⟩

theorem SameTransient.trans {u v w : Voice} (h : SameTransient u v) (k : SameTransient v w) : SameTransient u w :=
  ⟨k.1.trans h.1, k.2.trans h.2⟩

/-- Whether the transient runs is read from its envelope alone (R148). -/
theorem SameTransient.pluckRuns_eq {v w : Voice} (h : SameTransient v w) : pluckRuns w = pluckRuns v := by
  rw [pluckRuns, pluckRuns, h.pluckEnvelope]

theorem envStep_sameTransient (v : Voice) : SameTransient v (envStep v) :=
  ⟨envStep_pluckEnvelope v, envStep_pluckFilterState v⟩

theorem advancePhases_sameTransient (v : Voice) : SameTransient v (advancePhases v) := ⟨rfl, rfl⟩

theorem frameVoice_sameTransient {v : Voice} (h : pluckRuns v = false) (e : Entropy) :
    SameTransient v (frameVoice v e) := by
  rw [frameVoice, (pluckVoice_frozen h e).1]
  exact (advancePhases_sameTransient v).trans (envStep_sameTransient _)

theorem runVoice_sameTransient {v : Voice} (h : pluckRuns v = false) (ha : v.active = true) (n : Nat) (e : Entropy) :
    SameTransient v (runVoice n v e).voice :=
  runVoice_keeps (P := SameTransient v)
    (fun _ e _ hw => hw.trans (frameVoice_sameTransient (hw.pluckRuns_eq.trans h) e)) n v e ha (.refl v)

theorem State.voice_renderBlock_sameTransient {s : State} {i : Slot} (h : pluckRuns (s.voice i) = false) (n : Nat) :
    SameTransient (s.voice i) ((s.renderBlock n).voice i) := by
  cases ha : (s.voice i).active with
  | true =>
    obtain ⟨e, he⟩ := State.voice_renderBlock_of_active ha n
    rw [he]
    exact runVoice_sameTransient h ha n e
  | false =>
    rw [State.voice_renderBlock_of_inactive ha]
    exact .refl _

/-- `C_THR_LO` itself does not exceed the threshold (R148). -/
theorem pluckRuns_of_threshold {v : Voice} (h : v.pluckEnvelope = 0x38D1B717#32) : pluckRuns v = false := by
  have hstrict : fgt 0x38D1B717#32 cThrLo = false := by decide
  rw [pluckRuns, h, hstrict]

/-- The least pattern above `C_THR_LO` exceeds it (R148). -/
theorem pluckRuns_of_above {v : Voice} (h : v.pluckEnvelope = 0x38D1B718#32) : pluckRuns v = true := by
  have habove : fgt 0x38D1B718#32 cThrLo = true := by decide
  rw [pluckRuns, h, habove]

/-- Settles O52: each frame of a block leaves a frozen transient, and so leaves it frozen for the next. -/
theorem pluckFreezes : Obligations.PluckFreezes := by
  refine ⟨fun v e h => ?_, fun s t n i hn ht h => ?_, fun _ => ⟨pluckRuns_of_threshold, pluckRuns_of_above⟩⟩
  · obtain ⟨hvoice, hentropy, hvalue⟩ := pluckVoice_frozen h e
    exact ⟨hvalue, hvoice, hentropy⟩
  · obtain rfl := eq_renderBlock_of_exec hn ht
    have hsame := State.voice_renderBlock_sameTransient h n
    exact ⟨hsame.pluckEnvelope, hsame.pluckFilterState⟩

end Sys2Proof.Machine
end

section
/-! PROOFS. The soft clip (R158). Of a finite sample it is one rounded quotient, whose denominator is the rounded
`1 + |x|`; how that denominator compares with the sample gives the bounds. Magnitudes are in units of `2^-149`. -/

namespace Sys2Proof.Machine

/-! ### The soft clip as one rounded quotient -/

/-- The rounded `1 + |x|`, for a sample of magnitude `m`. -/
def clipDivisor (m : Nat) : Nat := magOf (roundMag (2 ^ 149 + m) 1)

/-- The divisor of a finite sample is finite: 1 does not move the largest finite value. -/
theorem roundMag_clipDivisor_lt {m : Nat} (hm : m ≤ magOf 0x7F7FFFFF) : roundMag (2 ^ 149 + m) 1 < 0x7F800000 := by
  have hmax : roundMag (2 ^ 149 + magOf 0x7F7FFFFF) 1 = 0x7F7FFFFF := by decide
  have hmono := roundMag_mono one_pos one_pos (Nat.mul_le_mul_right 1 (Nat.add_le_add_left hm (2 ^ 149)))
  omega

theorem mag_le_maxFinite {x : F32} (hx : isFinite x = true) : mag x ≤ magOf 0x7F7FFFFF := by
  rw [mag_eq_magOf]
  exact magOf_strictMono.monotone (Nat.le_of_lt_succ ((isFinite_iff x).1 hx))

/-- The divisor is at least every value that `1 + |x|` is at least. -/
theorem magOf_le_clipDivisor {u m : Nat} (hu : u ≤ 0x7F800000) (h : magOf u ≤ 2 ^ 149 + m) :
    magOf u ≤ clipDivisor m :=
  magOf_strictMono.monotone (le_roundMag_of_le one_pos hu (by omega))

theorem magOf_one : magOf 0x3F800000 = 2 ^ 149 := by decide

theorem one_le_clipDivisor (m : Nat) : 2 ^ 149 ≤ clipDivisor m := by
  rw [← magOf_one]
  exact magOf_le_clipDivisor (by norm_num) (magOf_one.trans_le (Nat.le_add_right ..))

theorem mag_le_clipDivisor {x : F32} (hx : isFinite x = true) : mag x ≤ clipDivisor (mag x) := by
  have hu := (isFinite_iff x).1 hx
  have h := magOf_le_clipDivisor (m := mag x) hu.le (by rw [← mag_eq_magOf]; omega)
  rwa [← mag_eq_magOf] at h

theorem fadd_one_fabs {x : F32} (hx : isFinite x = true) :
    fadd cOne (fabs x) = roundF false (2 ^ 149 + mag x) 1 := by
  have hone : sval cOne = (2 ^ 149 : Nat) := by decide
  have habs : sval (fabs x) = mag x := by rw [sval, signBit_fabs, mag_fabs, if_neg Bool.false_ne_true]
  have hsign : sumSign cOne (fabs x) = false := by
    rw [sumSign, hone, habs, if_neg (by omega), decide_eq_false (by omega)]
  rw [fadd_of_isFinite isFinite_cOne ((isFinite_fabs x).trans hx), hsign, hone, habs, ← Nat.cast_add,
    Int.natAbs_natCast]

theorem softclip_of_isFinite {x : F32} (hx : isFinite x = true) :
    softclip x = roundF (signBit x) (mag x * 2 ^ 149) (clipDivisor (mag x)) := by
  have hfin : isFinite (roundF false (2 ^ 149 + mag x) 1) = true :=
    (isFinite_roundF ..).2 (roundMag_clipDivisor_lt (mag_le_maxFinite hx))
  have hpos := one_le_clipDivisor (mag x)
  have hmag : mag (roundF false (2 ^ 149 + mag x) 1) = clipDivisor (mag x) := mag_roundF ..
  rw [softclip, fadd_one_fabs hx, fdiv_of_isFinite hx hfin (by rw [hmag]; omega), hmag, signBit_roundF,
    Bool.bne_false]

/-- A bound `u` on the rounded quotient bounds the soft clip, as a pattern and as a magnitude. -/
theorem softclip_bound {x : F32} (hx : isFinite x = true) {u : Nat} (hu : u < 0x7F800000)
    (h : mag x * 2 ^ 149 ≤ magOf u * clipDivisor (mag x)) :
    isFinite (softclip x) = true ∧ mag (softclip x) ≤ magOf u := by
  have hpos : 0 < clipDivisor (mag x) := (Nat.two_pow_pos 149).trans_le (one_le_clipDivisor _)
  have hle := roundMag_le_of_le hpos hu.le h
  rw [softclip_of_isFinite hx, isFinite_roundF, mag_roundF]
  exact ⟨hle.trans_lt hu, magOf_strictMono.monotone hle⟩

/-! ### Its symmetry and its bounds -/

/-- A pattern is its sign and its bits 30:0. -/
theorem eq_ofMag (x : F32) : x = ofMag (signBit x) (x.toNat % 2 ^ 31) := by
  have hlt := x.isLt
  apply BitVec.eq_of_toNat_eq
  rw [ofMag_toNat _ (Nat.mod_lt _ (Nat.two_pow_pos 31)), signBit, BitVec.msb_eq_decide]
  by_cases h : 2 ^ 31 ≤ x.toNat
  · rw [decide_eq_true h, if_pos rfl]
    omega
  · rw [decide_eq_false h, if_neg nofun]
    omega

theorem fneg_ofMag (neg : Bool) {u : Nat} (hu : u < 2 ^ 31) : fneg (ofMag neg u) = ofMag (!neg) u := by
  rw [eq_ofMag (fneg (ofMag neg u)), signBit_fneg, fneg_toNat_mod, signBit_ofMag neg hu, ofMag_toNat_mod neg hu]

theorem softclip_fneg {x : F32} (hx : isFinite x = true) : softclip (fneg x) = fneg (softclip x) := by
  have hmag : mag (fneg x) = mag x := by rw [mag_eq_magOf, fneg_toNat_mod, ← mag_eq_magOf]
  rw [softclip_of_isFinite ((isFinite_fneg x).trans hx), softclip_of_isFinite hx, hmag, signBit_fneg, roundF, roundF,
    fneg_ofMag _ (roundMag_lt ..)]

/-- A value below another is at most `1 - 2^-24` of it: neighbouring patterns are that far apart. -/
theorem magOf_le_pred_of_lt {u v : Nat} (h : u < v) : magOf u * 2 ^ 24 ≤ magOf v * (2 ^ 24 - 1) := by
  have hsucc : magOf (u + 1) ≤ magOf v := magOf_strictMono.monotone h
  refine le_trans ?_ (Nat.mul_le_mul_right _ hsucc)
  rcases pattern_cases u with hsub | ⟨k, m, rfl, hm, hm'⟩
  · rw [magOf_of_lt (by omega), magOf_of_lt (by omega)]
    omega
  · rw [Nat.add_assoc, magOf_normal hm hm', magOf_significand (Nat.succ_le_of_lt hm') (fun _ => by omega),
      Nat.mul_right_comm, Nat.mul_right_comm _ (2 ^ k)]
    exact Nat.mul_le_mul_right _ (by omega)

/-- Below `2^24` the next value is at most 1 away. -/
theorem magOf_succ_le_add_one {u : Nat} (h : magOf u < 2 ^ 24 * 2 ^ 149) : magOf (u + 1) ≤ 2 ^ 149 + magOf u := by
  rcases pattern_cases u with hsub | ⟨k, m, rfl, hm, hm'⟩
  · rw [magOf_of_lt (by omega), magOf_of_lt (by omega)]
    omega
  · rw [magOf_normal hm hm'] at h ⊢
    rw [Nat.add_assoc, magOf_significand (Nat.succ_le_of_lt hm') (fun _ => by omega), Nat.succ_mul, Nat.add_comm]
    have hk : 2 ^ (23 + k) < 2 ^ (24 + 149) := by
      rw [Nat.pow_add, Nat.pow_add]
      exact (Nat.mul_le_mul_right _ hm).trans_lt h
    have hexp := (Nat.pow_lt_pow_iff_right (by norm_num)).1 hk
    exact Nat.add_le_add_right (Nat.pow_le_pow_right two_pos (by omega)) _

/-- Below `2^24` the divisor exceeds the sample, so the quotient is at most the largest value below 1. -/
theorem softclip_lt_one {x : F32} (hx : isFinite x = true) (h : mag x < 2 ^ 24 * 2 ^ 149) :
    mag (softclip x) < 2 ^ 149 := by
  have hu := (isFinite_iff x).1 hx
  have hlast : magOf 0x3F7FFFFF = (2 ^ 24 - 1) * 2 ^ 125 :=
    magOf_normal (k := 125) (m := 2 ^ 24 - 1) (by norm_num) (by norm_num)
  have hlt : magOf (x.toNat % 2 ^ 31) * 2 ^ 24 ≤ clipDivisor (mag x) * (2 ^ 24 - 1) := by
    refine magOf_le_pred_of_lt (Nat.lt_of_succ_le (le_roundMag_of_le one_pos hu ?_))
    rw [Nat.mul_one, mag_eq_magOf] at *
    exact magOf_succ_le_add_one h
  rw [← mag_eq_magOf] at hlt
  have hquot : mag x * 2 ^ 149 ≤ magOf 0x3F7FFFFF * clipDivisor (mag x) :=
    calc mag x * 2 ^ 149 = mag x * 2 ^ 24 * 2 ^ 125 := by ring
      _ ≤ clipDivisor (mag x) * (2 ^ 24 - 1) * 2 ^ 125 := Nat.mul_le_mul_right _ hlt
      _ = magOf 0x3F7FFFFF * clipDivisor (mag x) := by rw [hlast]; ring
  obtain ⟨-, hle⟩ := softclip_bound hx (by norm_num) hquot
  exact hle.trans_lt (by rw [hlast]; norm_num)

theorem softclip_le_one {x : F32} (hx : isFinite x = true) : mag (softclip x) ≤ 2 ^ 149 := by
  have hquot : mag x * 2 ^ 149 ≤ magOf 0x3F800000 * clipDivisor (mag x) := by
    rw [magOf_one, Nat.mul_comm]
    exact Nat.mul_le_mul_left _ (mag_le_clipDivisor hx)
  exact (softclip_bound hx (by norm_num) hquot).2.trans_eq magOf_one

/-- A magnitude bound as a bound on the value. -/
theorem abs_fval_lt_iff (x : F32) (n : Nat) : |fval x| < n ↔ mag x < n * 2 ^ 149 := by
  rw [abs_fval, div_lt_iff₀ (by positivity)]
  exact_mod_cast Iff.rfl

/-- Settles O41: the quotient's sign is the sample's, and its divisor is at least `|x|`, more than it below `2^24`. -/
theorem softclipOddAndBounded : Obligations.SoftclipOddAndBounded := by
  refine ⟨fun x hx => ⟨softclip_fneg hx, ?_⟩, by decide⟩
  rw [← and_assoc, ← abs_le]
  constructor
  · rw [abs_fval, div_le_one (by positivity)]
    exact_mod_cast softclip_le_one hx
  · intro h
    have hmag : mag x < 2 ^ 24 * 2 ^ 149 := (abs_fval_lt_iff x (2 ^ 24)).1 (by exact_mod_cast h)
    exact_mod_cast (abs_fval_lt_iff (softclip x) 1).2 (by rw [Nat.one_mul]; exact softclip_lt_one hx hmag)

/-- Refutes O42: `2^24 + 2` is at least `2^24`, and its soft clip is `0x3F7FFFFE`. -/
theorem not_softclipIsOneFromTwoTo24 : ¬ Obligations.SoftclipIsOneFromTwoTo24 := by
  intro h
  have hclip : softclip 0x4B800001#32 = 0x3F7FFFFE#32 := by decide +kernel
  have harg : fval 0x4B800001#32 = 2 ^ 24 + 2 := fval_eq_of_sval ((2 ^ 24 + 2) * 2 ^ 149) (by decide) (by norm_num)
  have hval : fval 0x3F7FFFFE#32 = 1 - 1 / 2 ^ 23 :=
    fval_eq_of_sval ((2 ^ 24 - 2) * 2 ^ 125) (by decide) (by norm_num)
  have hone := (h 0x4B800001#32 (by decide)).1 (by rw [harg]; norm_num)
  rw [hclip, hval] at hone
  norm_num at hone

/-- Refutes O43: `0x3F8023CA` is the value after `0x3F8023C9`, and its soft clip is the value before the other's. -/
theorem not_softclipNeverDecreases : ¬ Obligations.SoftclipNeverDecreases := by
  intro h
  have hle := h 0x3F8023C9#32 0x3F8023CA#32 (by decide) (by decide) ((fval_le_fval ..).2 (by decide))
  rw [fval_le_fval] at hle
  exact absurd hle (by decide +kernel)

end Sys2Proof.Machine
end

section
/-! PROOFS. The output range (R159): a voice adds at most `89/512` to a sample, so the 14 voices at most `1246/512`, and
the soft clip of that is below 0.71. The bounds are binary32 values, so rounding keeps them. -/

namespace Sys2Proof.Machine

/-! ### Rounding keeps a bound on the magnitude -/

/-- A finite pattern whose value is at most `q` in magnitude. -/
structure AbsLe (q : ℚ) (x : F32) : Prop where
  finite : isFinite x = true
  le : |fval x| ≤ q

theorem AbsLe.mono {p q : ℚ} {x : F32} (h : AbsLe p x) (hpq : p ≤ q) : AbsLe q x := ⟨h.finite, h.le.trans hpq⟩

theorem absLe_of_nonneg {q : ℚ} {x : F32} (hx : isFinite x = true) (h0 : 0 ≤ fval x) (h : fval x ≤ q) : AbsLe q x :=
  ⟨hx, (abs_of_nonneg h0).trans_le h⟩

/-- A pattern whose value is known, by that value. -/
theorem absLe_of_eq {q : ℚ} {x : F32} (hx : isFinite x = true) (h : fval x = q) (h0 : 0 ≤ q) : AbsLe q x :=
  absLe_of_nonneg hx (h0.trans_eq h.symm) h.le

/-- A number of magnitude at most a value `q` rounds to one of magnitude at most `q`. -/
theorem IsRN.absLe {x q : ℚ} {r c : F32} (h : IsRN x r) (hc : isFinite c = true) (hq : fval c = q) (hx : |x| ≤ q) :
    AbsLe q r := by
  obtain ⟨hlo, hhi⟩ := abs_le.1 hx
  obtain ⟨hfin, hbounds⟩ := h.bounds_of_eq ((isFinite_fneg c).trans hc) hc (by rw [fval_fneg, hq]) hq hlo hhi
  exact ⟨hfin, abs_le.2 hbounds⟩

/-- A sum of magnitude at most a value `r` stays so when rounded. -/
theorem AbsLe.add {a b c : F32} {p q r : ℚ} (ha : AbsLe p a) (hb : AbsLe q b) (hc : isFinite c = true)
    (hr : fval c = r) (h : p + q ≤ r) : AbsLe r (fadd a b) :=
  (isRN_fadd ha.finite hb.finite).absLe hc hr ((abs_add_le _ _).trans ((add_le_add ha.le hb.le).trans h))

/-- So does a product. -/
theorem AbsLe.mul {a b c : F32} {p q r : ℚ} (ha : AbsLe p a) (hb : AbsLe q b) (hc : isFinite c = true)
    (hr : fval c = r) (h : p * q ≤ r) : AbsLe r (fmul a b) := by
  refine (isRN_fmul ha.finite hb.finite).absLe hc hr (le_trans ?_ h)
  rw [abs_mul]
  exact mul_le_mul ha.le hb.le (abs_nonneg _) ((abs_nonneg _).trans ha.le)

/-! ### One frame of a sound voice (R155) -/

theorem absLe_cSawW : AbsLe (0x99999A / 2 ^ 26) cSawW :=
  absLe_of_eq (by decide) (fval_eq_of_sval (0x99999A * 2 ^ 123) (by decide) (by norm_num)) (by norm_num)

theorem absLe_cPluckW : AbsLe (0x99999A / 2 ^ 25) cPluckW :=
  absLe_of_eq (by decide) (fval_eq_of_sval (0x99999A * 2 ^ 124) (by decide) (by norm_num)) (by norm_num)

theorem absLe_cMaster : AbsLe (0xF5C28F / 2 ^ 27) cMaster :=
  absLe_of_eq (by decide) (fval_eq_of_sval (0xF5C28F * 2 ^ 122) (by decide) (by norm_num)) (by norm_num)

theorem absLe_sineAt (phase : Word) : AbsLe 1 (sineAt phase) := by
  have hmag := natAbs_sval_sineEntry_le (i := phaseIndex phase) (BitVec.isLt _)
  obtain ⟨-, hbounds⟩ := unit_of_natAbs_sval_le hmag
  refine ⟨(isFinite_iff_mag _).2 ?_, abs_le.2 hbounds⟩
  rw [mag_eq_natAbs_sval, magOf_inf]
  exact hmag.trans_lt (by norm_num)

theorem absLe_sawAt (phase : Word) : AbsLe 1 (sawAt phase) :=
  (isRN_sawAt phase).absLe isFinite_cOne fval_cOne (abs_le.2 (rampValue_bounds phase))

/-- The tone is at most `1 + 0.15`, a little less than the bound. -/
theorem absLe_toneSample (v : Voice) : AbsLe (589 / 512) (toneSample v) := by
  have hpart : fval 0x3E1A0000#32 = 77 / 512 := fval_eq_of_sval (77 * 2 ^ 140) (by decide) (by norm_num)
  have hsum : fval 0x3F934000#32 = 589 / 512 := fval_eq_of_sval (589 * 2 ^ 140) (by decide) (by norm_num)
  have hsaw := absLe_cSawW.mul (absLe_sawAt v.phase2) (by decide) hpart (by norm_num)
  exact (absLe_sineAt v.phase).add hsaw (by decide) hsum (by norm_num)

/-- What `PluckStep` returns is at most 1. -/
theorem absLe_pluckValue {i : Slot} {v : Voice} (h : Voice.Sound i v) (e : Entropy) : AbsLe 1 (pluckValue v e) := by
  have hfilter := (fle_fabs_iff isFinite_cOne).1 (filtered_le h.filter (noiseValue_le e))
  have henv := isFinite_of_fle isFinite_fzero isFinite_cOne h.pluckLow h.pluckHigh
  have hlow := (fle_iff isFinite_fzero henv).1 h.pluckLow
  have hhigh := (fle_iff henv isFinite_cOne).1 h.pluckHigh
  rw [fval_fzero] at hlow
  rw [fval_cOne] at hfilter hhigh
  unfold pluckValue
  split
  · exact AbsLe.mul ⟨hfilter.1, hfilter.2⟩ (absLe_of_nonneg henv hlow hhigh) isFinite_cOne fval_cOne (by norm_num)
  · exact absLe_of_eq isFinite_fzero fval_fzero le_rfl |>.mono zero_le_one

/-- The bound on what a voice adds to a sample. -/
def voiceShare : ℚ := 89 / 512

/-- What a sound active voice adds is at most `(1.15 * 0.9903 + 0.3) * 0.12`, a little less than its share. -/
theorem absLe_frameSample {i : Slot} {v : Voice} (h : Voice.Sound i v) (ha : v.active = true) (e : Entropy) :
    AbsLe voiceShare (frameSample v e) := by
  obtain ⟨hfin, hlow⟩ := h.envelope_finite ha
  have hpos : 0 ≤ fval v.envelope := le_trans (by rw [fval_cThrLo]; norm_num) hlow
  have henv := absLe_of_nonneg hfin hpos ((envelopeHigh_iff hpos).1 (h.envelopeHigh ha)).le
  have htone : fval 0x3F91E000#32 = 1167 / 1024 := fval_eq_of_sval (1167 * 2 ^ 139) (by decide) (by norm_num)
  have hpluck : fval 0x3E9A0000#32 = 77 / 256 := fval_eq_of_sval (77 * 2 ^ 141) (by decide) (by norm_num)
  have hsum : fval 0x3FB88000#32 = 369 / 256 := fval_eq_of_sval (369 * 2 ^ 141) (by decide) (by norm_num)
  have hshare : fval 0x3E320000#32 = voiceShare := fval_eq_of_sval (89 * 2 ^ 140) (by decide) (by norm_num [voiceShare])
  have h1 := (absLe_toneSample v).mul henv (by decide) htone (by norm_num)
  have h2 := (absLe_pluckValue h e).mul absLe_cPluckW (by decide) hpluck (by norm_num)
  exact (h1.add h2 (by decide) hsum (by norm_num)).mul absLe_cMaster (by decide) hshare (by norm_num [voiceShare])

/-! ### The accumulator of a block (R155, R161) -/

/-- The bound of up to 14 voices is a binary32 value. -/
theorem exists_fval_eq_shares {k : Nat} (hk : k ≤ 14) : ∃ x : F32, isFinite x = true ∧ fval x = k * voiceShare := by
  have hval : ∀ k ≤ 14, isFinite (ofIntScaled (89 * (k : Nat)) 9) = true ∧
      sval (ofIntScaled (89 * (k : Nat)) 9) = 89 * (k : Nat) * 2 ^ 140 := by decide
  obtain ⟨hfin, hsval⟩ := hval k hk
  refine ⟨_, hfin, fval_eq_of_sval _ hsval ?_⟩
  rw [voiceShare]
  push_cast
  ring

/-- A sample with `k` shares takes one more. -/
theorem AbsLe.add_share {k : Nat} {y c : F32} (hy : AbsLe (k * voiceShare) y) (hc : AbsLe voiceShare c) (hk : k < 14) :
    AbsLe ((k + 1 : Nat) * voiceShare) (fadd y c) := by
  obtain ⟨x, hx, hval⟩ := exists_fval_eq_shares (Nat.succ_le_of_lt hk)
  exact hy.add hc hx hval (by push_cast; linarith)

/-- Every entry of the accumulator after one voice is an old one, or an old one plus a sample of the voice. -/
theorem mem_accumulate {y : F32} : ∀ {acc samples : List F32}, y ∈ accumulate acc samples →
    y ∈ acc ∨ ∃ o ∈ acc, ∃ c ∈ samples, y = fadd o c
  | [], _, h => .inl h
  | _ :: _, [], h => .inl h
  | o :: acc, c :: samples, h => by
    rcases List.mem_cons.1 h with rfl | h
    · exact .inr ⟨o, List.mem_cons_self, c, List.mem_cons_self, rfl⟩
    · rcases mem_accumulate h with h | ⟨o', ho, c', hc, rfl⟩
      · exact .inl (List.mem_cons_of_mem _ h)
      · exact .inr ⟨o', List.mem_cons_of_mem _ ho, c', List.mem_cons_of_mem _ hc, rfl⟩

/-- A block in which `k` voices have been mixed: every voice is sound, and every sample has `k` shares at most. -/
structure Mix.Sound (k : Nat) (m : Mix) : Prop where
  voices : ∀ i : Slot, Voice.Sound i (voiceAt m.voices i)
  acc : ∀ y ∈ m.acc, AbsLe (k * voiceShare) y

theorem mixVoice_keeps_sound {n : Nat} {m : Mix} (h : ∀ i : Slot, Voice.Sound i (voiceAt m.voices i)) (i j : Slot) :
    Voice.Sound j (voiceAt (mixVoice n m i).voices j) := by
  rw [mixVoice_voices]
  split
  · next hij =>
    obtain ⟨rfl, ha⟩ := hij
    exact runVoice_keeps (fun _ e ha hv => frameVoice_sound hv ha e) n _ _ ha (h i)
  · exact h j

theorem mixVoice_acc_absLe {k n : Nat} {m : Mix} (h : m.Sound k) (hk : k < 14) (i : Slot) {y : F32}
    (hy : y ∈ (mixVoice n m i).acc) : AbsLe ((k + 1 : Nat) * voiceShare) y := by
  have hold {o : F32} (ho : o ∈ m.acc) : AbsLe ((k + 1 : Nat) * voiceShare) o :=
    (h.acc o ho).mono (mul_le_mul_of_nonneg_right (Nat.cast_le.2 k.le_succ) (by norm_num [voiceShare]))
  unfold mixVoice at hy
  split at hy
  · next ha =>
    rcases mem_accumulate hy with hy | ⟨o, ho, c, hc, rfl⟩
    · exact hold hy
    · exact (h.acc o ho).add_share (runVoice_samples (fun _ e ha hv => frameVoice_sound hv ha e)
        (fun _ e ha hv => absLe_frameSample hv ha e) n _ _ ha (h.voices i) c hc) hk
  · exact hold hy

theorem foldl_mixVoice_sound (n : Nat) (l : List Slot) {k : Nat} {m : Mix} (h : m.Sound k) (hl : k + l.length ≤ 14) :
    (l.foldl (mixVoice n) m).Sound (k + l.length) := by
  induction l generalizing k m with
  | nil => exact h
  | cons i l ih =>
    rw [List.length_cons] at hl ⊢
    rw [List.foldl_cons, Nat.add_comm l.length 1, ← Nat.add_assoc]
    exact ih ⟨mixVoice_keeps_sound h.voices i, fun _ => mixVoice_acc_absLe h (by omega) i⟩ (by omega)

/-- Before any voice is mixed the accumulator is all `+0.0`, and then 14 voices are mixed. -/
theorem mixBlock_sound {vs : VoiceFile} (h : ∀ i : Slot, Voice.Sound i (voiceAt vs i)) (n : Nat) (e : Entropy) :
    (mixBlock n vs e).Sound 14 := by
  refine foldl_mixVoice_sound n slots (k := 0) ⟨h, fun y hy => ?_⟩ le_rfl
  rw [List.eq_of_mem_replicate hy]
  exact absLe_of_eq isFinite_fzero (by rw [fval_fzero, Nat.cast_zero, zero_mul]) (by simp)

/-! ### The soft clip of the accumulator (R158, R159) -/

/-- One rounding takes at most `1 / (2^24 + 1)` from the divisor. -/
theorem clipDivisor_ge {x : F32} (hx : isFinite x = true) :
    (2 ^ 149 + mag x : ℚ) * 2 ^ 24 ≤ clipDivisor (mag x) * (2 ^ 24 + 1) := by
  have hlt := roundMag_clipDivisor_lt (mag_le_maxFinite hx)
  have herr := roundMag_relative_error one_pos (by omega) hlt
  have hneg := neg_abs_le ((clipDivisor (mag x) : ℚ) - (2 ^ 149 + mag x : Nat) / (1 : Nat))
  rw [← clipDivisor] at herr
  push_cast at herr hneg
  linarith

/-- The soft clip of 14 shares is at most `727/1024`. -/
theorem softclip_sampleSound {x : F32} (h : AbsLe (14 * voiceShare) x) : SampleSound (softclip x) := by
  have hmag : (mag x : ℚ) ≤ 14 * voiceShare * 2 ^ 149 := by
    rw [← div_le_iff₀ (by positivity), ← abs_fval]
    exact h.le
  have hdiv := clipDivisor_ge h.finite
  have hbound : magOf 0x3F35C000 = 727 * 2 ^ 139 := by decide
  have hquot : (mag x * 2 ^ 149 : ℚ) ≤ magOf 0x3F35C000 * clipDivisor (mag x) := by
    rw [hbound]
    rw [voiceShare] at hmag
    push_cast
    linarith
  obtain ⟨hfin, hle⟩ := softclip_bound h.finite (u := 0x3F35C000) (by norm_num) (by exact_mod_cast hquot)
  rw [hbound] at hle
  exact ⟨hfin, by omega⟩

/-- Settles O58: only reset and a block write the buffer, and a block writes soft clips of at most 14 shares. -/
theorem outputBoundKept : Obligations.OutputBoundKept := by
  intro s t hv hs h
  cases stepCase_of_step h with
  | quiet core =>
    unfold State.OutputSound
    rwa [core.out]
  | reset _ eq =>
    subst eq
    intro y hy
    rw [List.eq_of_mem_replicate hy]
    exact ⟨by decide, by decide⟩
  | fault _ eq _ => subst eq; exact hs
  | allocate _ _ _ eq => subst eq; exact hs
  | @render _ n _ _ eq =>
    subst eq
    intro y hy
    rw [State.out_renderBlock, List.mem_append, List.mem_map] at hy
    rcases hy with ⟨x, hx, rfl⟩ | hy
    · exact softclip_sampleSound ((mixBlock_sound hv n _).acc x hx)
    · exact hs y (List.mem_of_mem_drop hy)

end Sys2Proof.Machine
end

section
/-! PROOFS. The PCM conversion (R165): the clamped sample is finite and in `[-1, 1]`, one rounding keeps the product
within 12000, and truncation takes its fractional part off toward zero. -/

namespace Sys2Proof.Machine

/-! ### Truncation (R100) -/

theorem truncToInt_eq (x : F32) : (truncToInt x : ℚ) = signFactor (signBit x) * (mag x / 2 ^ 149 : Nat) := by
  rw [truncToInt]
  cases signBit x with
  | false => rw [if_neg Bool.false_ne_true, signFactor_false, one_mul, Int.cast_natCast]
  | true => rw [if_pos rfl, signFactor_true, neg_one_mul, Int.cast_neg, Int.cast_natCast]

theorem abs_truncToInt (x : F32) : |(truncToInt x : ℚ)| = (mag x / 2 ^ 149 : Nat) := by
  rw [truncToInt_eq, abs_mul, abs_signFactor, one_mul, Nat.abs_cast]

/-- Truncation goes toward zero by less than 1 and keeps the sign. -/
theorem truncToInt_spec (x : F32) :
    |(truncToInt x : ℚ)| ≤ |fval x| ∧ |fval x| < |(truncToInt x : ℚ)| + 1 ∧ 0 ≤ (truncToInt x : ℚ) * fval x := by
  rw [abs_truncToInt, abs_fval, truncToInt_eq, fval_eq]
  refine ⟨?_, ?_, ?_⟩
  · rw [le_div_iff₀ (by positivity)]
    exact_mod_cast Nat.div_mul_le_self ..
  · rw [div_lt_iff₀ (by positivity)]
    exact_mod_cast Nat.lt_mul_of_div_lt (Nat.lt_succ_self _) (Nat.two_pow_pos 149)
  · rw [mul_div_assoc, mul_mul_mul_comm, signFactor_mul_self, one_mul]
    positivity

/-! ### The clamp -/

theorem clampUnit_of_above {y : F32} (h : fgt y cOne = true) : clampUnit y = cOne := if_pos h

theorem clampUnit_of_below {y : F32} (h : flt y (fneg cOne) = true) : clampUnit y = fneg cOne := by
  have hnot : ¬ fgt y cOne = true := by
    have hone : sval cOne = 2 ^ 149 := by decide
    have hneg : sval (fneg cOne) = -2 ^ 149 := by decide
    simp only [fgt, flt, Bool.and_eq_true, decide_eq_true_eq, hone, hneg] at h ⊢
    omega
  rw [clampUnit, if_neg hnot, if_pos h]

/-- A number that neither branch takes is in `[-1, 1]`, so it is finite. -/
theorem clampUnit_of_between {y : F32} (hy : isNaN y = false) (h1 : ¬ fgt y cOne = true)
    (h2 : ¬ flt y (fneg cOne) = true) : clampUnit y = y ∧ fle (fneg cOne) y = true ∧ fle y cOne = true := by
  have hone : isNaN cOne = false := by decide
  have hneg : isNaN (fneg cOne) = false := by decide
  refine ⟨by rw [clampUnit, if_neg h1, if_neg h2], ?_⟩
  simpa [fgt, flt, fle, hy, hone, hneg] using And.intro h2 h1

theorem clampUnit_of_unit {y : F32} (hy : isFinite y = true) (h1 : -1 ≤ fval y) (h2 : fval y ≤ 1) :
    clampUnit y = y := by
  refine (clampUnit_of_between (isNaN_of_isFinite hy) ?_ ?_).1
  · rw [fgt_iff hy isFinite_cOne, fval_cOne]
    exact h2.not_gt
  · rw [flt_iff hy (by decide), fval_fneg, fval_cOne]
    exact h1.not_gt

theorem absLe_clampUnit {y : F32} (hy : isNaN y = false) : AbsLe 1 (clampUnit y) := by
  have hneg : isFinite (fneg cOne) = true := by decide
  by_cases h1 : fgt y cOne = true
  · rw [clampUnit_of_above h1]
    exact absLe_of_eq isFinite_cOne fval_cOne zero_le_one
  by_cases h2 : flt y (fneg cOne) = true
  · rw [clampUnit_of_below h2]
    exact ⟨hneg, by rw [fval_fneg, fval_cOne, abs_neg, abs_one]⟩
  obtain ⟨heq, hlo, hhi⟩ := clampUnit_of_between hy h1 h2
  have hfin := isFinite_of_fle hneg isFinite_cOne hlo hhi
  rw [fle_iff hneg hfin, fval_fneg, fval_cOne] at hlo
  rw [fle_iff hfin isFinite_cOne, fval_cOne] at hhi
  rw [heq]
  exact ⟨hfin, abs_le.2 ⟨hlo, hhi⟩⟩

/-! ### The conversion -/

/-- The product of a number in `[-1, 1]` with 12000 is rounded to at most 12000, so its truncation is too. -/
theorem pcm16_bounds {y : F32} (hy : isNaN y = false) : -12000 ≤ pcm16 y ∧ pcm16 y ≤ 12000 := by
  have hfin : isFinite cPcm = true := by decide
  have hval : fval cPcm = 12000 := fval_eq_of_sval (12000 * 2 ^ 149) (by decide) (by norm_num)
  have hprod := (absLe_clampUnit hy).mul (absLe_of_eq hfin hval (by norm_num)) hfin hval (by norm_num)
  have htrunc := (truncToInt_spec (fmul (clampUnit y) cPcm)).1.trans hprod.le
  rw [← pcm16, abs_le] at htrunc
  exact_mod_cast htrunc

theorem toInt_pcmPattern {y : F32} (hy : isNaN y = false) : (pcmPattern y).toInt = pcm16 y := by
  obtain ⟨hlo, hhi⟩ := pcm16_bounds hy
  rw [pcmPattern, hy, if_neg Bool.false_ne_true, BitVec.toInt_ofInt]
  exact Int.bmod_eq_of_le (by omega) (by omega)

/-- Settles O44: the clamp by its three branches, and the truncation of one rounded product. -/
theorem pcmConversion : Obligations.PcmConversion := by
  intro y hy
  obtain ⟨hlo, hhi⟩ := pcm16_bounds hy
  refine ⟨hlo, hhi, toInt_pcmPattern hy, fun hfin h1 h2 => ?_, fun h => ?_, fun h => ?_⟩
  · rw [pcm16, clampUnit_of_unit hfin h1 h2]
    exact truncToInt_spec _
  · rw [pcm16, clampUnit_of_above h]
    decide
  · rw [pcm16, clampUnit_of_below h]
    decide

end Sys2Proof.Machine
end

section
/-! PROOFS. What a block leaves (R155, R160, R163): the buffer from `n` on, the inactive voices, the tuning of the
active ones and the jitter draws; then the same through the host window. -/

namespace Sys2Proof.Machine

/-! ### The entropy source (R146) -/

/-- The jitter draws of two entropy sources are the same. -/
structure SameJitter (e f : Entropy) : Prop where
  jitter : f.jitter = e.jitter
  jitterDraws : f.jitterDraws = e.jitterDraws

theorem SameJitter.refl (e : Entropy) : SameJitter e e := ⟨rfl, rfl⟩

theorem SameJitter.trans {e f g : Entropy} (h : SameJitter e f) (k : SameJitter f g) : SameJitter e g :=
  ⟨k.1.trans h.1, k.2.trans h.2⟩

theorem pluckEntropy_sameJitter (v : Voice) (e : Entropy) : SameJitter e (pluckEntropy v e) := by
  unfold pluckEntropy
  split <;> exact ⟨rfl, rfl⟩

theorem runVoice_sameJitter (n : Nat) (v : Voice) (e : Entropy) : SameJitter e (runVoice n v e).entropy := by
  induction n generalizing v e with
  | zero => exact .refl e
  | succ n ih =>
    cases hf : (frameVoice v e).active with
    | true => rw [runVoice_succ_active hf]; exact (pluckEntropy_sameJitter v e).trans (ih _ _)
    | false => rw [runVoice_succ_ended hf]; exact pluckEntropy_sameJitter v e

theorem mixVoice_sameJitter (n : Nat) (m : Mix) (i : Slot) : SameJitter m.entropy (mixVoice n m i).entropy := by
  unfold mixVoice
  split
  · exact runVoice_sameJitter ..
  · exact .refl _

/-- A property that the part of every voice keeps holds after the block. -/
theorem mixBlock_keeps {P : Mix → Prop} {n : Nat} (hP : ∀ m i, P m → P (mixVoice n m i)) {vs : VoiceFile} {e : Entropy}
    (h : P ⟨List.replicate n fzero, vs, e⟩) : P (mixBlock n vs e) :=
  List.foldlRecOn slots (mixVoice n) h fun m hm i _ => hP m i hm

/-- A block takes no jitter draw. -/
theorem mixBlock_sameJitter (n : Nat) (vs : VoiceFile) (e : Entropy) : SameJitter e (mixBlock n vs e).entropy :=
  mixBlock_keeps (P := fun m => SameJitter e m.entropy) (fun m i h => h.trans (mixVoice_sameJitter n m i)) (.refl e)

/-! ### The buffer (R163) -/

theorem State.outEntry_renderBlock_of_le (s : State) {n k : Nat} (h : n ≤ k) :
    (s.renderBlock n).outEntry k = s.outEntry k := by
  have hlen : ((mixBlock n s.voices s.entropy).acc.map softclip).length = n := by
    rw [List.length_map, mixBlock_acc_length]
  rw [State.outEntry, State.out_renderBlock, List.getD_append_right _ _ _ _ (hlen.trans_le h), hlen,
    List.getD_eq_getElem?_getD, List.getElem?_drop, Nat.add_sub_cancel' h, ← List.getD_eq_getElem?_getD, State.outEntry]

theorem exec_render_of_lt {s : State} {n : Nat} (h : s.params.blockMax < n) :
    exec (.render n) s = .next (s.raiseFault .length (encode (.render n))) := by
  rw [exec, execRender, if_pos h]

/-- Settles O47: the tail by the concatenation that a block writes, and the fault writes neither. -/
theorem renderKeepsTail : Obligations.RenderKeepsTail := by
  intro s n hn _
  rcases Nat.lt_or_ge s.params.blockMax n with hlong | hfits
  · exact ⟨_, exec_render_of_lt hlong, fun _ _ => rfl, fun hfits => by omega, fun _ => ⟨rfl, rfl⟩⟩
  · refine ⟨_, exec_render_of_le hfits, fun _ => s.outEntry_renderBlock_of_le, fun _ => ?_, fun hlong => by omega⟩
    rw [State.outlen_renderBlock, frameCountWord, BitVec.toNat_ofNat]
    exact Nat.mod_eq_of_lt (hn.trans (by norm_num))

/-! ### The voices (R155) -/

/-- Settles O46: each clause is the rule of a block for its field. -/
theorem renderFrame : Obligations.RenderFrame := by
  intro s n hn _
  have hsource := mixBlock_sameJitter n s.voices s.entropy
  refine ⟨_, exec_render_of_le hn, s.outlen_renderBlock n, s.result_renderBlock n, s.arg0_renderBlock n,
    s.agectr_renderBlock n, s.status_renderBlock n, s.faultcmd_renderBlock n, s.params_renderBlock n,
    s.moves_renderBlock n, s.responses_renderBlock n, by rw [State.entropy_renderBlock, hsource.jitter],
    by rw [State.entropy_renderBlock, hsource.jitterDraws], fun _ => s.outEntry_renderBlock_of_le,
    fun _ ha => State.voice_renderBlock_of_inactive ha n, fun i => ?_⟩
  obtain ⟨h1, h2, h3, h4, h5, h6, h7⟩ := s.voice_renderBlock_sameTuning n i
  exact ⟨h1, h2, h3, h4, h5, h6, h7⟩

/-- With no active voice nothing is mixed. -/
theorem mixBlock_of_inactive {vs : VoiceFile} (h : ∀ i : Slot, (voiceAt vs i).active = false) (n : Nat) (e : Entropy) :
    mixBlock n vs e = ⟨List.replicate n fzero, vs, e⟩ := by
  refine mixBlock_keeps (P := fun m => m = ⟨List.replicate n fzero, vs, e⟩) (fun m i hm => ?_) rfl
  rw [hm]
  exact if_neg (by rw [h i]; exact Bool.false_ne_true)

/-- Settles O49: such a block is the zeroed accumulator, and the soft clip keeps `+0.0`. -/
theorem renderSilentPool : Obligations.RenderSilentPool := by
  intro s n hn _ hinactive
  have hclip : softclip fzero = 0x00000000#32 := by decide
  have hmix := mixBlock_of_inactive hinactive n s.entropy
  refine ⟨_, exec_render_of_le hn, fun k hk => ?_, ?_, ?_, s.outlen_renderBlock n⟩
  · rw [State.outEntry, State.out_renderBlock, hmix, List.map_replicate, hclip,
      List.getD_append _ _ _ _ (by rwa [List.length_replicate]), List.getD_replicate _ hk]
  · rw [State.voices_renderBlock, hmix]
  · rw [State.entropy_renderBlock, hmix]

/-! ### The frame through the host window (R57, R66) -/

/-- Two states of the same parameters read the same at an address whose control word, voice word or entry of the buffer,
where it has one, is the same. -/
theorem State.readWord_congr_of_entries {s t : State} {a : Addr} (hparams : t.params = s.params)
    (hcontrol : ∀ k, a.toNat = 4 * k → t.controlWord k = s.controlWord k)
    (hvoice : ∀ (i : Slot) (o : Nat), o % 4 = 0 → a.toNat = 0x0100 + 0x40 * i.val + o →
      (t.voice i).windowWord o = (s.voice i).windowWord o)
    (hout : ∀ k, a.toNat = 0x4000 + 4 * k ∨ a.toNat = 0x8000 + 4 * k → t.outEntry k = s.outEntry k) :
    t.readWord a = s.readWord a := by
  by_cases h4 : a.toNat % 4 = 0
  case neg => rw [t.readWord_of_misaligned h4, s.readWord_of_misaligned h4]
  by_cases hlow : a.toNat < 0x0100
  · have ha : a.toNat = 4 * (a.toNat / 4) := by omega
    rw [t.readWord_of_control ha (by omega), s.readWord_of_control ha (by omega), hcontrol _ ha]
  by_cases hpool : a.toNat < 0x0480
  · obtain ⟨hbase, hend⟩ := (windowSlot_eq_iff (not_lt.1 hlow) hpool _).1 rfl
    obtain ⟨o, ha⟩ := Nat.exists_eq_add_of_le hbase
    rw [t.readWord_of_voice _ ha (by omega) (by omega), s.readWord_of_voice _ ha (by omega) (by omega),
      hvoice _ o (by omega) ha]
  by_cases hconst : a.toNat < 0x4000
  · simp only [State.readWord, hlow, hpool, hconst, if_false, if_true]
  by_cases hmono : a.toNat < 0x8000
  · have hentry := hout ((a.toNat - 0x4000) / 4) (.inl (by omega))
    simp only [State.readWord, hlow, hpool, hconst, hmono, if_false, if_true, hparams, hentry]
  · have hentry := hout ((a.toNat - 0x8000) / 4) (.inr (by omega))
    simp only [State.readWord, hlow, hpool, hconst, hmono, if_false, hparams, State.pcmWord, hentry]

/-- The words of a voice window that show its tuning, or nothing. -/
theorem SameTuning.windowWord {v w : Voice} (h : SameTuning v w) {o : Nat} (h0 : o / 4 ≠ 0) (h1 : o / 4 ≠ 1)
    (h3 : o / 4 ≠ 3) (h5 : o / 4 ≠ 5) (h8 : o / 4 ≠ 8) (h10 : o / 4 ≠ 10) : w.windowWord o = v.windowWord o := by
  unfold Voice.windowWord
  generalize o / 4 = k at *
  match k with
  | 0 | 1 | 3 | 5 | 8 | 10 => contradiction
  | 2 => exact h.phaseInc
  | 4 => exact h.phase2Inc
  | 6 => exact h.attackCoeff
  | 7 => exact h.decayCoeff
  | 9 => exact h.pluckDecayCoeff
  | 11 => exact h.age
  | 12 => exact h.detuneRatio
  | _ + 13 => rfl

/-- `OUTLEN` is control word 4. -/
theorem State.controlWord_withBlock (s : State) (n : Nat) (m : Mix) :
    ∀ {k : Nat}, k ≠ 4 → (s.withBlock n m).controlWord k = s.controlWord k
  | 4, h => absurd rfl h
  | 0, _ | 1, _ | 2, _ | 3, _ | 5, _ | 6, _ | 7, _ | 8, _ | 9, _ | _ + 10, _ => rfl

/-- Settles O48: the control words, the voices and the entries of the buffer that a block leaves. -/
theorem renderWindowFrame : Obligations.RenderWindowFrame := by
  intro s t n a _ _ hn ht houtlen hmono hpcm hvoices
  obtain rfl := eq_renderBlock_of_exec hn ht
  refine State.readWord_congr_of_entries (s.params_renderBlock n)
    (fun k hk => s.controlWord_withBlock n _ fun h4 => houtlen (BitVec.eq_of_toNat_eq (by rw [hk, h4]; rfl)))
    (fun i o h4 ho => ?_) (fun k hk => s.outEntry_renderBlock_of_le (by omega))
  cases ha : (s.voice i).active with
  | false => rw [State.voice_renderBlock_of_inactive ha]
  | true =>
    have hwords := hvoices i o ha ho
    exact (s.voice_renderBlock_sameTuning n i).windowWord (by omega) (by omega) (by omega) (by omega) (by omega)
      (by omega)

end Sys2Proof.Machine
end

section
/-! PROOFS. Rendering in two parts (R162). A voice's part of a block of `a + b` frames is its part of `a` frames and
then of `b`; what it draws reaches its filter state alone, and the same draws leave the same voice. -/

namespace Sys2Proof.Machine

/-! ### A voice's part of a block (R155) -/

/-- The frame loop of an active voice, and nothing for an inactive one. -/
def playVoice (n : Nat) (v : Voice) (e : Entropy) : VoiceRun := if v.active = true then runVoice n v e else ⟨[], v, e⟩

/-- What it draws. -/
def playDraws (n : Nat) (v : Voice) (e : Entropy) : List F32 := if v.active = true then runDraws n v e else []

/-- What one frame draws. -/
def frameDraws (v : Voice) (e : Entropy) : List F32 := if pluckRuns v = true then [e.noiseValue] else []

section Part
variable {v : Voice}

theorem playVoice_of_active (h : v.active = true) (n : Nat) (e : Entropy) : playVoice n v e = runVoice n v e := if_pos h

theorem playVoice_of_inactive (h : v.active = false) (n : Nat) (e : Entropy) : playVoice n v e = ⟨[], v, e⟩ :=
  if_neg (by rw [h]; exact Bool.false_ne_true)

theorem playDraws_of_active (h : v.active = true) (n : Nat) (e : Entropy) : playDraws n v e = runDraws n v e := if_pos h

theorem playDraws_of_inactive (h : v.active = false) (n : Nat) (e : Entropy) : playDraws n v e = [] :=
  if_neg (by rw [h]; exact Bool.false_ne_true)

end Part

@[simp] theorem playVoice_zero (v : Voice) (e : Entropy) : playVoice 0 v e = ⟨[], v, e⟩ := ite_self _

@[simp] theorem playDraws_zero (v : Voice) (e : Entropy) : playDraws 0 v e = [] := ite_self _

/-- After its first frame a voice plays on, or has ended. -/
theorem runVoice_succ (n : Nat) (v : Voice) (e : Entropy) :
    runVoice (n + 1) v e =
      ⟨frameSample v e :: (playVoice n (frameVoice v e) (pluckEntropy v e)).samples,
        (playVoice n (frameVoice v e) (pluckEntropy v e)).voice,
        (playVoice n (frameVoice v e) (pluckEntropy v e)).entropy⟩ := by
  cases h : (frameVoice v e).active with
  | true => rw [runVoice_succ_active h, playVoice_of_active h]
  | false => rw [runVoice_succ_ended h, playVoice_of_inactive h]

theorem runDraws_succ (n : Nat) (v : Voice) (e : Entropy) :
    runDraws (n + 1) v e = frameDraws v e ++ playDraws n (frameVoice v e) (pluckEntropy v e) := rfl

/-- Playing `a + b` frames is playing `a` and then `b`: the voice and the entropy source. -/
theorem playVoice_add (a b : Nat) (v : Voice) (e : Entropy) :
    (playVoice (a + b) v e).voice = (playVoice b (playVoice a v e).voice (playVoice a v e).entropy).voice ∧
      (playVoice (a + b) v e).entropy = (playVoice b (playVoice a v e).voice (playVoice a v e).entropy).entropy := by
  induction a generalizing v e with
  | zero => simp
  | succ a ih =>
    cases ha : v.active with
    | true =>
      rw [Nat.succ_add, playVoice_of_active ha, playVoice_of_active ha, runVoice_succ, runVoice_succ]
      exact ih _ _
    | false => simp only [playVoice_of_inactive ha, and_self]

/-- And the draws. -/
theorem playDraws_add (a b : Nat) (v : Voice) (e : Entropy) :
    playDraws (a + b) v e = playDraws a v e ++ playDraws b (playVoice a v e).voice (playVoice a v e).entropy := by
  induction a generalizing v e with
  | zero => simp
  | succ a ih =>
    cases ha : v.active with
    | true =>
      rw [Nat.succ_add, playDraws_of_active ha, playDraws_of_active ha, playVoice_of_active ha, runDraws_succ,
        runDraws_succ, runVoice_succ, ih, List.append_assoc]
    | false => simp only [playVoice_of_inactive ha, playDraws_of_inactive ha, List.append_nil]

/-! ### What the draws reach (R146, R203) -/

/-- A voice without its filter state. -/
def Voice.withoutFilter (v : Voice) : Voice := { v with pluckFilterState := fzero }

theorem Voice.eq_of_withoutFilter_eq {v w : Voice} (h : v.withoutFilter = w.withoutFilter) :
    { v with pluckFilterState := w.pluckFilterState } = w :=
  congrArg (fun u : Voice => { u with pluckFilterState := w.pluckFilterState }) h

/-- `PluckStep` without its filter. -/
def decayTransient (v : Voice) : Voice :=
  if pluckRuns v = true then { v with pluckEnvelope := fmul v.pluckEnvelope v.pluckDecayCoeff } else v

theorem pluckVoice_withoutFilter (v : Voice) (e : Entropy) :
    (pluckVoice v e).withoutFilter = decayTransient v.withoutFilter := by
  have hruns : pluckRuns v.withoutFilter = pluckRuns v := rfl
  rw [pluckVoice, decayTransient, hruns]
  split <;> rfl

theorem envStep_withoutFilter (v : Voice) : (envStep v).withoutFilter = envStep v.withoutFilter := by
  cases hs : v.envelopeState with
  | attack =>
    have hs' : v.withoutFilter.envelopeState = .attack := hs
    rw [envStep_of_attack hs, envStep_of_attack hs']
    rfl
  | decay =>
    have hs' : v.withoutFilter.envelopeState = .decay := hs
    have hproduct : fmul v.withoutFilter.envelope v.withoutFilter.decayCoeff = fmul v.envelope v.decayCoeff := rfl
    rw [envStep_of_decay hs, envStep_of_decay hs', decayStep, decayStep, hproduct]
    split <;> rfl

theorem frameVoice_withoutFilter (v : Voice) (e : Entropy) :
    (frameVoice v e).withoutFilter = envStep (advancePhases (decayTransient v.withoutFilter)) := by
  rw [frameVoice, envStep_withoutFilter, ← pluckVoice_withoutFilter v e]
  rfl

theorem length_frameDraws (v : Voice) (e : Entropy) :
    (frameDraws v e).length = if pluckRuns v = true then 1 else 0 := by
  unfold frameDraws
  split <;> rfl

/-- Two voices that are equal up to the filter state play to voices that are, and draw equally often, whatever they
draw. -/
theorem playVoice_withoutFilter {v w : Voice} (h : v.withoutFilter = w.withoutFilter) (n : Nat) (e f : Entropy) :
    (playVoice n v e).voice.withoutFilter = (playVoice n w f).voice.withoutFilter ∧
      (playDraws n v e).length = (playDraws n w f).length := by
  induction n generalizing v w e f with
  | zero => simpa using h
  | succ n ih =>
    have hactive : v.active = w.active := show v.withoutFilter.active = w.withoutFilter.active by rw [h]
    have hruns : pluckRuns v = pluckRuns w := show pluckRuns v.withoutFilter = pluckRuns w.withoutFilter by rw [h]
    cases hw : w.active with
    | true =>
      have hframe : (frameVoice v e).withoutFilter = (frameVoice w f).withoutFilter := by
        rw [frameVoice_withoutFilter, frameVoice_withoutFilter, h]
      obtain ⟨hvoice, hlen⟩ := ih hframe (pluckEntropy v e) (pluckEntropy w f)
      rw [playVoice_of_active (hactive.trans hw), playVoice_of_active hw, playDraws_of_active (hactive.trans hw),
        playDraws_of_active hw, runVoice_succ, runVoice_succ, runDraws_succ, runDraws_succ, List.length_append,
        List.length_append, length_frameDraws, length_frameDraws, hruns, hlen]
      exact ⟨hvoice, rfl⟩
    | false =>
      rw [playVoice_of_inactive (hactive.trans hw), playVoice_of_inactive hw, playDraws_of_inactive (hactive.trans hw),
        playDraws_of_inactive hw]
      exact ⟨h, rfl⟩

/-- The same draw moves the same voice the same way. -/
theorem frameVoice_of_draws {v : Voice} {e f : Entropy} (h : frameDraws v e = frameDraws v f) :
    frameVoice v e = frameVoice v f := by
  cases hruns : pluckRuns v with
  | true =>
    have hnoise : e.noiseValue = f.noiseValue := by simpa [frameDraws, hruns] using h
    rw [frameVoice, frameVoice, pluckVoice, pluckVoice, hnoise]
  | false => rw [frameVoice, frameVoice, (pluckVoice_frozen hruns e).1, (pluckVoice_frozen hruns f).1]

/-- So the same draws lead to the same voice. -/
theorem playVoice_of_draws {n : Nat} {v : Voice} {e f : Entropy} (h : playDraws n v e = playDraws n v f) :
    (playVoice n v e).voice = (playVoice n v f).voice := by
  induction n generalizing v e f with
  | zero => simp
  | succ n ih =>
    cases ha : v.active with
    | true =>
      rw [playDraws_of_active ha, playDraws_of_active ha, runDraws_succ, runDraws_succ] at h
      obtain ⟨hfirst, hrest⟩ := List.append_inj h (by rw [length_frameDraws, length_frameDraws])
      rw [playVoice_of_active ha, playVoice_of_active ha, runVoice_succ, runVoice_succ]
      rw [← frameVoice_of_draws hfirst] at hrest ⊢
      exact ih hrest
    | false => rw [playVoice_of_inactive ha, playVoice_of_inactive ha]

section TwoParts
variable (a b : Nat) (v : Voice) (e e₁ e₂ : Entropy)

/-- Two parts with any draws lead to the voice of the whole, up to the filter state. -/
theorem playVoice_two_parts_withoutFilter :
    (playVoice b (playVoice a v e₁).voice e₂).voice.withoutFilter = (playVoice (a + b) v e).voice.withoutFilter := by
  rw [(playVoice_add a b v e).1]
  exact (playVoice_withoutFilter (playVoice_withoutFilter rfl a e₁ e).1 b e₂ _).1

variable {a b v e e₁ e₂}

/-- With the draws of the whole they lead to the voice of the whole. -/
theorem playVoice_two_parts_of_draws
    (h : playDraws (a + b) v e = playDraws a v e₁ ++ playDraws b (playVoice a v e₁).voice e₂) :
    (playVoice b (playVoice a v e₁).voice e₂).voice = (playVoice (a + b) v e).voice := by
  rw [playDraws_add] at h
  obtain ⟨h1, h2⟩ := List.append_inj h (playVoice_withoutFilter rfl a e e₁).2
  rw [← playVoice_of_draws h1] at h2 ⊢
  rw [(playVoice_add a b v e).1, playVoice_of_draws h2]

end TwoParts

/-! ### A block, voice by voice (R161) -/

/-- The entropy source when the block comes to voice `i`. -/
def State.entropyAt (s : State) (n : Nat) (i : Slot) : Entropy :=
  ((slots.take i.val).foldl (mixVoice n) ⟨List.replicate n fzero, s.voices, s.entropy⟩).entropy

theorem blockDraws_eq (s : State) (n : Nat) (i : Slot) :
    blockDraws s n i = playDraws n (s.voice i) (s.entropyAt n i) := rfl

theorem mixVoice_entropy (n : Nat) (m : Mix) (i : Slot) :
    (mixVoice n m i).entropy = (playVoice n (voiceAt m.voices i) m.entropy).entropy := by
  unfold mixVoice playVoice
  split <;> rfl

theorem mixVoice_voice_same (n : Nat) (m : Mix) (i : Slot) :
    voiceAt (mixVoice n m i).voices i = (playVoice n (voiceAt m.voices i) m.entropy).voice := by
  cases ha : (voiceAt m.voices i).active with
  | true => rw [mixVoice_voices, if_pos ⟨rfl, ha⟩, playVoice_of_active ha]
  | false => rw [mixVoice_voices, if_neg (by simp [ha]), playVoice_of_inactive ha]

theorem slots_split : ∀ i : Slot, slots = slots.take i.val ++ i :: slots.drop (i.val + 1) ∧
    i ∉ slots.take i.val ∧ i ∉ slots.drop (i.val + 1) := by decide

theorem State.voice_renderBlock_eq (s : State) (n : Nat) (i : Slot) :
    (s.renderBlock n).voice i = (playVoice n (s.voice i) (s.entropyAt n i)).voice := by
  obtain ⟨hsplit, hbefore, hafter⟩ := slots_split i
  rw [State.voice, State.voices_renderBlock, mixBlock, hsplit, List.foldl_append, List.foldl_cons,
    foldl_mixVoice_voices_of_notMem n _ _ hafter, mixVoice_voice_same, foldl_mixVoice_voices_of_notMem n _ _ hbefore]
  rfl

/-! ### One voice that draws -/

/-- A voice that takes no draw. -/
def Voice.Silent (v : Voice) : Prop := v.active = true → pluckRuns v = false

/-- It leaves the entropy source, and stays silent. -/
theorem playVoice_of_silent {v : Voice} (h : v.Silent) (n : Nat) (e : Entropy) :
    (playVoice n v e).entropy = e ∧ playDraws n v e = [] ∧ (playVoice n v e).voice.Silent := by
  induction n generalizing v with
  | zero => simpa using h
  | succ n ih =>
    cases ha : v.active with
    | true =>
      have hruns := h ha
      obtain ⟨-, hentropy, -⟩ := pluckVoice_frozen hruns e
      have hframe : (frameVoice v e).Silent := fun _ => (frameVoice_sameTransient hruns e).pluckRuns_eq.trans hruns
      rw [playVoice_of_active ha, playDraws_of_active ha, runVoice_succ, runDraws_succ, hentropy, frameDraws,
        hruns, if_neg Bool.false_ne_true, List.nil_append]
      exact ih hframe
    | false =>
      rw [playVoice_of_inactive ha, playDraws_of_inactive ha]
      exact ⟨rfl, rfl, h⟩

section Silent
variable {v : Voice} (h : v.Silent) (n : Nat) (e : Entropy)
include h

theorem Voice.Silent.playVoice_entropy : (playVoice n v e).entropy = e := (playVoice_of_silent h n e).1

theorem Voice.Silent.playDraws_eq : playDraws n v e = [] := (playVoice_of_silent h n e).2.1

theorem Voice.Silent.playVoice_voice : (playVoice n v e).voice.Silent := (playVoice_of_silent h n e).2.2

end Silent

/-- No voice but voice `j` takes a draw. -/
def OnlyDraws (j : Slot) (vs : VoiceFile) : Prop := ∀ i, i ≠ j → (voiceAt vs i).Silent

theorem OnlyDraws.after_mixVoice {j : Slot} {m : Mix} (h : OnlyDraws j m.voices) (n : Nat) (i : Slot) :
    OnlyDraws j (mixVoice n m i).voices := by
  intro k hk
  by_cases hik : i = k
  · subst hik
    rw [mixVoice_voice_same]
    exact (h i hk).playVoice_voice n _
  · rw [mixVoice_voices, if_neg fun hc => hik hc.1]
    exact h k hk

/-- Voices other than `j` leave the entropy source. -/
theorem OnlyDraws.after_foldl {j : Slot} {m : Mix} (h : OnlyDraws j m.voices) (n : Nat) {l : List Slot} (hj : j ∉ l) :
    (l.foldl (mixVoice n) m).entropy = m.entropy ∧ OnlyDraws j (l.foldl (mixVoice n) m).voices := by
  induction l generalizing m with
  | nil => exact ⟨rfl, h⟩
  | cons i l ih =>
    rw [List.mem_cons, not_or] at hj
    obtain ⟨hentropy, hdraws⟩ := ih (h.after_mixVoice n i) hj.2
    refine ⟨?_, hdraws⟩
    rw [List.foldl_cons, hentropy, mixVoice_entropy]
    exact (h i (Ne.symm hj.1)).playVoice_entropy n _

section OneVoice
variable {s : State} {j : Slot} (h : OnlyDraws j s.voices) (n : Nat)
include h

theorem OnlyDraws.entropyAt_eq : s.entropyAt n j = s.entropy := by
  obtain ⟨-, hbefore, -⟩ := slots_split j
  exact (OnlyDraws.after_foldl (m := ⟨List.replicate n fzero, s.voices, s.entropy⟩) h n hbefore).1

/-- The source after the block is that after the part of voice `j`. -/
theorem OnlyDraws.entropy_renderBlock :
    (s.renderBlock n).entropy = (playVoice n (s.voice j) s.entropy).entropy := by
  obtain ⟨hsplit, hbefore, hafter⟩ := slots_split j
  obtain ⟨hentropy, hdraws⟩ := OnlyDraws.after_foldl (m := ⟨List.replicate n fzero, s.voices, s.entropy⟩) h n hbefore
  rw [State.entropy_renderBlock, mixBlock, hsplit, List.foldl_append, List.foldl_cons,
    (OnlyDraws.after_foldl (hdraws.after_mixVoice n j) n hafter).1, mixVoice_entropy, hentropy,
    foldl_mixVoice_voices_of_notMem n _ _ hbefore]
  rfl

theorem OnlyDraws.after_renderBlock : OnlyDraws j (s.renderBlock n).voices := by
  intro i hi
  rw [← State.voice, State.voice_renderBlock_eq]
  exact (h i hi).playVoice_voice n _

/-- With one source for two blocks in a row, the draws of each voice are those of one block of both lengths. -/
theorem OnlyDraws.blockDraws_add (m : Nat) (i : Slot) :
    blockDraws s (n + m) i = blockDraws s n i ++ blockDraws (s.renderBlock n) m i := by
  simp only [blockDraws_eq]
  by_cases hi : i = j
  · subst hi
    rw [h.entropyAt_eq, h.entropyAt_eq, (h.after_renderBlock n).entropyAt_eq, h.entropy_renderBlock,
      State.voice_renderBlock_eq, h.entropyAt_eq, playDraws_add]
  · have hfirst : (s.voice i).Silent := h i hi
    have hsecond : ((s.renderBlock n).voice i).Silent := h.after_renderBlock n i hi
    rw [hfirst.playDraws_eq, hfirst.playDraws_eq, hsecond.playDraws_eq, List.append_nil]

end OneVoice

/-- Where at most one voice draws, there is one that no other draws beside. -/
theorem exists_onlyDraws {s : State} (h : ∀ i j : Slot, (s.voice i).active = true → pluckRuns (s.voice i) = true →
    (s.voice j).active = true → pluckRuns (s.voice j) = true → i = j) : ∃ j, OnlyDraws j s.voices := by
  by_cases hdraws : ∃ j, (s.voice j).active = true ∧ pluckRuns (s.voice j) = true
  · obtain ⟨j, hj, hruns⟩ := hdraws
    exact ⟨j, fun i hi ha => Bool.eq_false_iff.2 fun hr => hi (h i j ha hr hj hruns)⟩
  · exact ⟨0, fun i _ ha => Bool.eq_false_iff.2 fun hr => hdraws ⟨i, ha, hr⟩⟩

/-! ### One block and two (R162) -/

theorem State.voice_congr {s t : State} (h : t.voices = s.voices) (i : Slot) : t.voice i = s.voice i := by
  rw [State.voice, h, State.voice]

section TwoBlocks
variable {s q r : State} {a b : Nat} (hq : q.voices = s.voices) (hr : r.voices = (q.renderBlock a).voices)
include hq hr

/-- The second of two blocks, whatever source each has: the voices of the first are those of `s`, and those of the
second the ones that the first leaves. -/
theorem voice_second_block (i : Slot) : (r.renderBlock b).voice i =
    (playVoice b (playVoice a (s.voice i) (q.entropyAt a i)).voice (r.entropyAt b i)).voice := by
  rw [State.voice_renderBlock_eq, State.voice_congr hr, State.voice_renderBlock_eq, State.voice_congr hq]

theorem voice_two_blocks_withoutFilter (i : Slot) :
    ((r.renderBlock b).voice i).withoutFilter = ((s.renderBlock (a + b)).voice i).withoutFilter := by
  rw [voice_second_block hq hr, State.voice_renderBlock_eq]
  exact playVoice_two_parts_withoutFilter ..

theorem voices_two_blocks_of_draws (h : ∀ i : Slot, blockDraws s (a + b) i = blockDraws q a i ++ blockDraws r b i) :
    (r.renderBlock b).voices = (s.renderBlock (a + b)).voices := by
  refine voices_ext fun i => ?_
  have hdraws := h i
  rw [blockDraws_eq, blockDraws_eq, blockDraws_eq, State.voice_congr hr, State.voice_renderBlock_eq,
    State.voice_congr hq] at hdraws
  rw [← State.voice, ← State.voice, voice_second_block hq hr, State.voice_renderBlock_eq]
  exact playVoice_two_parts_of_draws hdraws

end TwoBlocks

/-- Settles O51: the two clauses on sources of their own, and for one source the draws are the same by themselves. -/
theorem renderSplits : Obligations.RenderSplits := by
  intro s t a b hab ht
  have ha : a ≤ s.params.blockMax := Nat.le_of_add_right_le hab
  have hb (q : State) (hq : q.params = s.params) : b ≤ (q.renderBlock a).params.blockMax := by
    rw [State.params_renderBlock, hq]
    exact Nat.le_of_add_left_le hab
  obtain rfl := eq_renderBlock_of_exec hab ht
  refine ⟨fun u v e₁ e₂ hu hv => ?_, fun u v hu hv hone => ?_⟩
  · generalize hq : { s with entropy := e₁ } = q at hu
    obtain rfl := eq_renderBlock_of_exec (by rw [← hq]; exact ha) hu
    generalize hr : { q.renderBlock a with entropy := e₂ } = r at hv
    obtain rfl := eq_renderBlock_of_exec (by rw [← hr]; exact hb q (by rw [← hq])) hv
    have hqs : q.voices = s.voices := by rw [← hq]
    have hrq : r.voices = (q.renderBlock a).voices := by rw [← hr]
    exact ⟨fun i => Voice.eq_of_withoutFilter_eq (voice_two_blocks_withoutFilter hqs hrq i),
      voices_two_blocks_of_draws hqs hrq⟩
  · obtain rfl := eq_renderBlock_of_exec ha hu
    obtain rfl := eq_renderBlock_of_exec (hb s rfl) hv
    obtain ⟨j, hj⟩ := exists_onlyDraws hone
    refine ⟨voices_two_blocks_of_draws rfl rfl (hj.blockDraws_add a b), ?_⟩
    rw [(hj.after_renderBlock a).entropy_renderBlock, hj.entropy_renderBlock, hj.entropy_renderBlock,
      State.voice_renderBlock_eq, hj.entropyAt_eq, (playVoice_add a b _ _).2]

end Sys2Proof.Machine
end

section
/-! PROOFS. `RENDER` is the pseudocode of R155: each assignment to a field of a voice or to an entry of the buffer in
its place, against the model's functions on whole voices and whole blocks. -/

namespace Sys2Proof.Machine

/-! ### Assignments to one voice (R14) -/

theorem writeVoice_writeVoice (vs : VoiceFile) (i : Slot) (v w : Voice) :
    writeVoice (writeVoice vs i v) i w = writeVoice vs i w := by
  simp only [writeVoice, Vector.set_set]

theorem writeVoice_self (vs : VoiceFile) (i : Slot) : writeVoice vs i (voiceAt vs i) = vs := by
  simp only [writeVoice, voiceAt, Vector.set_getElem_self]

theorem State.setVoice_setVoice (s : State) (i : Slot) (v w : Voice) :
    (s.setVoice i v).setVoice i w = s.setVoice i w := by
  rw [State.setVoice, State.setVoice, writeVoice_writeVoice, State.setVoice]

theorem State.setVoice_self (s : State) (i : Slot) : s.setVoice i (s.voice i) = s := by
  rw [State.setVoice, State.voice, writeVoice_self]

theorem writeField_eq (s : State) (i : Slot) (f : Voice → Voice) :
    Pseudocode.writeField s i f = s.setVoice i (f (s.voice i)) := rfl

/-- The engine with the entropy source after the draws of a frame. -/
def State.withEntropy (s : State) (e : Entropy) : State := { s with entropy := e }

/-- `PluckStep` (R146). -/
theorem pseudocode_pluckStep (i : Slot) (s : State) :
    Pseudocode.pluckStep i s = (pluckValue (s.voice i) s.entropy,
      (s.withEntropy (pluckEntropy (s.voice i) s.entropy)).setVoice i (pluckVoice (s.voice i) s.entropy)) := by
  cases hruns : pluckRuns (s.voice i) with
  | true =>
    have hruns' : fgt (s.voice i).pluckEnvelope cThrLo = true := hruns
    simp only [Pseudocode.pluckStep, hruns', if_true, writeField_eq, State.voice_setVoice_same, State.setVoice_setVoice,
      pluckValue, pluckVoice, pluckEntropy, hruns]
    rfl
  | false =>
    obtain ⟨hvoice, hentropy, hvalue⟩ := pluckVoice_frozen hruns s.entropy
    rw [Pseudocode.pluckStep, ← pluckRuns, hruns, if_neg Bool.false_ne_true, hvoice, hentropy, hvalue]
    exact congrArg _ (s.setVoice_self i).symm

/-- `EnvStep` (R136). -/
theorem pseudocode_envStep (i : Slot) (s : State) : Pseudocode.envStep i s = s.setVoice i (envStep (s.voice i)) := by
  cases hs : (s.voice i).envelopeState with
  | attack =>
    simp only [Pseudocode.envStep, hs, writeField_eq, State.voice_setVoice_same, State.setVoice_setVoice,
      envStep_of_attack, attackStep]
    split <;> rfl
  | decay =>
    simp only [Pseudocode.envStep, hs, writeField_eq, State.voice_setVoice_same, State.setVoice_setVoice,
      envStep_of_decay, decayStep]
    split <;> rfl

theorem writeOut_setVoice (s : State) (i : Slot) (v : Voice) (k : Nat) (y : F32) :
    Pseudocode.writeOut (s.setVoice i v) k y = (Pseudocode.writeOut s k y).setVoice i v := rfl

theorem State.outEntry_setVoice (s : State) (i : Slot) (v : Voice) (k : Nat) :
    (s.setVoice i v).outEntry k = s.outEntry k := rfl

theorem State.outEntry_withEntropy (s : State) (e : Entropy) (k : Nat) :
    (s.withEntropy e).outEntry k = s.outEntry k := rfl

/-- The mix reads no field that `PluckStep` has written before it (R156). -/
theorem frameSample_eq (v : Voice) (e : Entropy) : frameSample v e = mixSample (pluckVoice v e) (pluckValue v e) := by
  rw [frameSample, mixSample, mixSample, toneSample, toneSample, pluckVoice_phase, pluckVoice_phase2,
    pluckVoice_envelope]

/-- A frame of voice `i` that adds to entry `k` (R155): one entry, one voice, and the draws. -/
theorem pseudocode_frame (i : Slot) (k : Nat) (s : State) :
    Pseudocode.frame i k s =
      (Pseudocode.writeOut (s.withEntropy (pluckEntropy (s.voice i) s.entropy)) k
        (fadd (s.outEntry k) (frameSample (s.voice i) s.entropy))).setVoice i (frameVoice (s.voice i) s.entropy) := by
  simp only [Pseudocode.frame, pseudocode_pluckStep, pseudocode_envStep, writeField_eq, writeOut_setVoice,
    State.outEntry_setVoice, State.outEntry_withEntropy, State.voice_setVoice_same, State.setVoice_setVoice,
    frameSample_eq]
  rfl

/-! ### The frame loop (R155, R157) -/

/-- The engine while a block is mixed. -/
def State.mixing (s : State) (vs : VoiceFile) (e : Entropy) (out : List F32) : State :=
  { s with voices := vs, entropy := e, out := out }

theorem accumulate_nil (acc : List F32) : accumulate acc [] = acc := by cases acc <;> rfl

/-- A frame that adds to the entry after the entries `done`. -/
theorem pseudocode_frame_of_out (i : Slot) {s : State} {done rest : List F32} {o : F32}
    (hout : s.out = done ++ o :: rest) :
    Pseudocode.frame i done.length s =
      s.mixing (writeVoice s.voices i (frameVoice (s.voice i) s.entropy)) (pluckEntropy (s.voice i) s.entropy)
        (done ++ fadd o (frameSample (s.voice i) s.entropy) :: rest) := by
  have hentry : s.outEntry done.length = o := by simp [State.outEntry, hout]
  have hset (y : F32) : s.out.set done.length y = done ++ y :: rest := by simp [hout]
  rw [pseudocode_frame, hentry, ← hset]
  rfl

/-- The frame loop of voice `i`, over the entries `acc` after the entries `done`: the voice's run, accumulated. -/
theorem pseudocode_frames (i : Slot) (acc : List F32) {s : State} {done tail : List F32}
    (hout : s.out = done ++ (acc ++ tail)) :
    Pseudocode.frames i acc.length done.length s =
      s.mixing (writeVoice s.voices i (runVoice acc.length (s.voice i) s.entropy).voice)
        (runVoice acc.length (s.voice i) s.entropy).entropy
        (done ++ (accumulate acc (runVoice acc.length (s.voice i) s.entropy).samples ++ tail)) := by
  induction acc generalizing s done with
  | nil =>
    rw [List.length_nil, Pseudocode.frames, runVoice_zero, accumulate_nil, State.voice, writeVoice_self, ← hout]
    rfl
  | cons o acc ih =>
    have hvoice (vs : VoiceFile) (e : Entropy) (out : List F32) : (s.mixing vs e out).voice i = voiceAt vs i := rfl
    rw [List.length_cons, Pseudocode.frames, pseudocode_frame_of_out i hout]
    rw [hvoice, voiceAt_writeVoice_same]
    cases hf : (frameVoice (s.voice i) s.entropy).active with
    | false =>
      rw [if_pos rfl, runVoice_succ_ended hf, accumulate, accumulate_nil]
      rfl
    | true =>
      have hlen (y : F32) : done.length + 1 = (done ++ [y]).length := by simp
      rw [if_neg nofun, runVoice_succ_active hf, accumulate, hlen (fadd o (frameSample (s.voice i) s.entropy)),
        ih (by simp [State.mixing]), hvoice, voiceAt_writeVoice_same]
      simp only [State.mixing, writeVoice_writeVoice, List.append_assoc, List.cons_append, List.nil_append]

/-! ### The voices in slot order (R161) -/

/-- The pseudocode's part of voice `i` in a block of `n` frames. -/
def pseudocodeVoice (n : Nat) (s : State) (i : Slot) : State :=
  if (s.voice i).active = true then Pseudocode.frames i n 0 s else s

/-- The engine while the block `m` is mixed, with the entries `tail` after the block. -/
def State.mixingBlock (s : State) (tail : List F32) (m : Mix) : State := s.mixing m.voices m.entropy (m.acc ++ tail)

theorem pseudocodeVoice_mixingBlock (s : State) (tail : List F32) (m : Mix) (i : Slot) :
    pseudocodeVoice m.acc.length (s.mixingBlock tail m) i = s.mixingBlock tail (mixVoice m.acc.length m i) := by
  have hvoice : (s.mixingBlock tail m).voice i = voiceAt m.voices i := rfl
  rw [pseudocodeVoice, mixVoice, hvoice]
  split
  · exact pseudocode_frames i m.acc (s := s.mixingBlock tail m) (done := []) rfl
  · rfl

theorem foldl_pseudocodeVoice (s : State) (tail : List F32) (l : List Slot) {n : Nat} {m : Mix} (h : m.acc.length = n) :
    l.foldl (pseudocodeVoice n) (s.mixingBlock tail m) = s.mixingBlock tail (l.foldl (mixVoice n) m) := by
  induction l generalizing m with
  | nil => rfl
  | cons i l ih =>
    subst h
    rw [List.foldl_cons, List.foldl_cons, pseudocodeVoice_mixingBlock, ih (mixVoice_acc_length ..)]

/-! ### The two loops over the entries of a block (R155) -/

/-- The engine with another buffer. -/
def State.withOut (s : State) (out : List F32) : State := { s with out := out }

/-- A loop that assigns `g (OUT[k])` to `OUT[k]` for `k` below `n`. -/
theorem foldl_writeOut (g : F32 → F32) (s : State) {out : List F32} {n : Nat} (hn : n ≤ out.length) :
    (List.range n).foldl (fun s k => Pseudocode.writeOut s k (g (s.outEntry k))) (s.withOut out) =
      s.withOut ((out.take n).map g ++ out.drop n) := by
  induction n with
  | zero => rfl
  | succ n ih =>
    have hlen : ((out.take n).map g).length = n := by
      rw [List.length_map, List.length_take, Nat.min_eq_left (Nat.le_of_succ_le hn)]
    have hentry : (s.withOut ((out.take n).map g ++ out.drop n)).outEntry n = out[n] := by
      rw [State.outEntry, State.withOut, List.getD_append_right _ _ _ _ hlen.le, hlen, List.drop_eq_getElem_cons hn,
        Nat.sub_self, List.getD_cons_zero]
    have hset (y : F32) : ((out.take n).map g ++ out.drop n).set n y = (out.take n).map g ++ y :: out.drop (n + 1) := by
      rw [List.set_append_right _ _ hlen.le, hlen, List.drop_eq_getElem_cons hn, Nat.sub_self, List.set_cons_zero]
    rw [List.range_succ, List.foldl_append, ih (Nat.le_of_succ_le hn), List.foldl_cons, List.foldl_nil, hentry,
      List.take_succ_eq_append_getElem hn, List.map_append, List.append_assoc]
    exact congrArg s.withOut (hset _)

/-- The loops of the pseudocode for a block that fits. -/
theorem pseudocode_render_of_le {s : State} {n : Nat} (h : n ≤ s.params.blockMax) (w : Word) :
    Pseudocode.render n w s =
      { (List.range n).foldl (fun s k => Pseudocode.writeOut s k (softclip (s.outEntry k)))
          (slots.foldl (pseudocodeVoice n) ((List.range n).foldl (fun s k => Pseudocode.writeOut s k fzero) s)) with
        outlen := frameCountWord n } :=
  slots_eq_finRange ▸ if_neg h.not_gt

/-- Before the voices the block is zeroed. -/
theorem zeroed_eq_mixingBlock {s : State} {n : Nat} (h : n ≤ s.out.length) :
    (List.range n).foldl (fun s k => Pseudocode.writeOut s k fzero) s =
      s.mixingBlock (s.out.drop n) ⟨List.replicate n fzero, s.voices, s.entropy⟩ := by
  refine (foldl_writeOut (fun _ => fzero) s h).trans ?_
  rw [List.map_const', List.length_take, Nat.min_eq_left h]
  rfl

/-- After them it is clipped. -/
theorem clipped_eq_withBlock (s : State) {n : Nat} {m : Mix} (h : m.acc.length = n) :
    { (List.range n).foldl (fun s k => Pseudocode.writeOut s k (softclip (s.outEntry k)))
        (s.mixingBlock (s.out.drop n) m) with outlen := frameCountWord n } = s.withBlock n m := by
  have hclip := foldl_writeOut softclip (s.mixingBlock (s.out.drop n) m) (n := n) (out := m.acc ++ s.out.drop n)
    (by rw [List.length_append, h]; exact Nat.le_add_right ..)
  rw [List.take_left' h, List.drop_left' h] at hclip
  exact congrArg (fun t : State => { t with outlen := frameCountWord n }) hclip

/-- Settles O45: the block is zeroed, mixed voice by voice and clipped. -/
theorem renderMatchesPseudocode : Obligations.RenderMatchesPseudocode := by
  intro s n hwf
  rcases Nat.lt_or_ge s.params.blockMax n with hlong | hfits
  · rw [exec_render_of_lt hlong, Pseudocode.render, if_pos hlong]
    rfl
  · rw [exec_render_of_le hfits, pseudocode_render_of_le hfits, zeroed_eq_mixingBlock (hfits.trans_eq hwf.symm),
      foldl_pseudocodeVoice _ _ _ List.length_replicate, ← mixBlock, clipped_eq_withBlock s (mixBlock_acc_length ..)]
    rfl

end Sys2Proof.Machine
end

section
/-! PROOFS. Faults (60_exceptions.md): the three causes as one condition on the delivered word, `State.Raises`; what the
step that delivers such a word does, and what a faulted engine does with every move. -/

namespace Sys2Proof.Machine

/-! ### The causes (R181) -/

/-- The command word `w`, delivered to this engine while it is not faulted, raises a fault with this cause (R181). -/
def State.Raises (s : State) (w : Word) : Cause → Prop
  | .illcmd => ∃ e, decode w = .error e
  | .length => ∃ n, decode w = .ok (.render n) ∧ s.params.blockMax < n
  | .agewrap => ∃ p v, decode w = .ok (.noteon p v) ∧ v ≠ 0 ∧ s.agectr = 0xFFFFFFFF#32

/-- The list of R181 is complete. -/
theorem State.exists_raises_iff {s : State} {w : Word} : (∃ c, s.Raises w c) ↔
    (∃ e, decode w = .error e) ∨ (∃ n, decode w = .ok (.render n) ∧ s.params.blockMax < n) ∨
      ∃ p v, decode w = .ok (.noteon p v) ∧ v ≠ 0 ∧ s.agectr = 0xFFFFFFFF#32 := by
  constructor
  · rintro ⟨c, h⟩
    cases c with
    | illcmd => exact .inl h
    | length => exact .inr (.inl h)
    | agewrap => exact .inr (.inr h)
  · rintro (h | h | h)
    · exact ⟨.illcmd, h⟩
    · exact ⟨.length, h⟩
    · exact ⟨.agewrap, h⟩

/-- The record of a fault names a word that raises it on the engine as it is after the fault. -/
theorem State.FaultedBy.raises {s : State} {c : Cause} (h : s.FaultedBy c) : s.Raises s.faultcmd c := h.2

/-! ### The step that delivers a command word (R53, R188) -/

theorem step_of_command {s : State} {w : Word} {rest : List HostMove} (hm : s.moves = commandMove w :: rest) :
    step s = execute w { s with moves := rest, responses := .written :: s.responses } :=
  (step_of_write hm).trans (busWrite_cmd w _)

/-- R183: the command ends in the state before it with the fault raised on the word that was written. -/
theorem execute_of_raises {s : State} {w : Word} {c : Cause} (hf : s.faulted = false) (h : s.Raises w c) :
    execute w s = .next (s.raiseFault c w) := by
  cases c with
  | illcmd =>
    obtain ⟨e, hd⟩ := h
    exact execute_of_error hf hd
  | length =>
    obtain ⟨n, hd, hn⟩ := h
    rw [execute_of_ok hf hd, exec_render_of_lt hn, encode_of_decode hd]
  | agewrap =>
    obtain ⟨p, v, hd, hv, hctr⟩ := h
    rw [execute_of_ok hf hd, exec_noteon_agewrap hv hctr, encode_of_decode hd]

theorem step_of_raises {s : State} {w : Word} {c : Cause} {rest : List HostMove} (hf : s.faulted = false)
    (hm : s.moves = commandMove w :: rest) (h : s.Raises w c) :
    step s = .next { s with moves := rest, responses := .written :: s.responses,
                            status := statusOf c, faultcmd := w } := by
  rw [step_of_command hm]
  exact execute_of_raises (c := c) hf h

/-- Settles O18: the step for each cause, with its `STATUS` written out. -/
theorem faultsArePrecise : Obligations.FaultsArePrecise := fun _ _ _ hf hm =>
  ⟨fun e hd => step_of_raises (c := .illcmd) hf hm ⟨e, hd⟩,
    fun n hd hn => step_of_raises (c := .length) hf hm ⟨n, hd, hn⟩,
    fun p v hd hv hctr => step_of_raises (c := .agewrap) hf hm ⟨p, v, hd, hv, hctr⟩⟩

/-! ### A fault has one of the causes (R181, R187) -/

/-- A step from `STATUS` 0 keeps it 0, or delivers a word that raises the fault which `STATUS` then tells. -/
theorem status_after_step {s t : State} (h0 : s.status = 0#32) (h : step s = .next t) :
    t.status = 0#32 ∨ ∃ w c, s.moves.head? = some (commandMove w) ∧ s.Raises w c ∧ t.status = statusOf c := by
  cases stepCase_of_step h with
  | quiet core => exact .inl (core.status.trans h0)
  | reset _ eq => subst eq; exact .inl rfl
  | @fault w _ c cmd eq record =>
    have hraises : t.Raises t.faultcmd c := record.raises
    subst eq
    exact .inr ⟨w, c, cmd.head, hraises, rfl⟩
  | allocate _ _ _ eq => subst eq; exact .inl h0
  | render _ _ eq => subst eq; exact .inl ((State.status_renderBlock _ _).trans h0)

theorem State.faulted_of_status_zero {s : State} (h : s.status = 0#32) : s.faulted = false := by
  rw [State.faulted, h]
  rfl

theorem State.cause_of_status_zero {s : State} (h : s.status = 0#32) : s.cause = 0#4 := by
  rw [State.cause, h]
  rfl

theorem Cause.code_cases (c : Cause) : c.code = 1#4 ∨ c.code = 2#4 ∨ c.code = 3#4 := by
  cases c <;> decide

/-- A delivered word that raises a fault leaves the engine faulted. -/
theorem faulted_after_step_of_raises {s t : State} {w : Word} {c : Cause} (hf : s.faulted = false)
    (hhead : s.moves.head? = some (commandMove w)) (hraises : s.Raises w c) (h : step s = .next t) :
    t.faulted = true := by
  obtain ⟨rest, hm⟩ := List.head?_eq_some_iff.1 hhead
  rw [step_of_raises hf hm hraises] at h
  obtain rfl := Host.Outcome.next.inj h
  exact statusOf_fault c

/-- Settles O19: the two outcomes of `status_after_step`; `STATUS` stays 0 only where no raising word was delivered. -/
theorem faultsHaveThreeCauses : Obligations.FaultsHaveThreeCauses := by
  intro s t h0 h
  simp only [← State.exists_raises_iff]
  obtain hzero | ⟨w, c, hhead, hraises, hst⟩ := status_after_step h0 h
  · have hft : t.faulted = false := State.faulted_of_status_zero hzero
    refine ⟨iff_of_false (Bool.eq_false_iff.1 hft) ?_, fun _ => hzero, .inl (State.cause_of_status_zero hzero)⟩
    rintro ⟨w, hhead, c, hraises⟩
    exact Bool.eq_false_iff.1 hft
      (faulted_after_step_of_raises (State.faulted_of_status_zero h0) hhead hraises h)
  · have hft : t.faulted = true := by rw [State.faulted, hst, statusOf_fault]
    refine ⟨iff_of_true hft ⟨w, hhead, c, hraises⟩, fun hnot => absurd hft (Bool.eq_false_iff.1 hnot), .inr ?_⟩
    rw [State.cause, hst, statusOf_cause]
    exact c.code_cases

/-! ### The faulted engine (R184) -/

theorem execute_of_faulted {s : State} (hf : s.faulted = true) (w : Word) : execute w s = .next s := if_pos hf

/-- A step of a faulted engine other than reset touches `ARG0` and the host's side of the bus alone. -/
theorem step_of_faulted {s t : State} (hf : s.faulted = true) (hreset : s.moves.head? ≠ some .reset)
    (h : step s = .next t) :
    ∃ a ms rs, t = { s with arg0 := a, moves := ms, responses := rs } := by
  obtain ⟨-, rfl⟩ | ⟨_, _, _, -, rfl⟩ | ⟨_, _, -, rfl⟩ | ⟨_, hm, -⟩ | ⟨w, _, -, hexec⟩ := step_cases h
  · exact ⟨_, _, _, rfl⟩
  · exact ⟨_, _, _, rfl⟩
  · exact ⟨_, _, _, rfl⟩
  · exact absurd (by rw [hm]; rfl) hreset
  · rw [execute_of_faulted (s := s.takeMove.respond .written) hf] at hexec
    obtain rfl := Host.Outcome.next.inj hexec
    exact ⟨_, _, _, rfl⟩

/-- Settles O20: the rules of the bus for each access, and the frame of every step but reset. -/
theorem faultedEngineIgnoresCommands : Obligations.FaultedEngineIgnoresCommands := by
  intro s hf
  refine ⟨fun w rest hm => ?command, fun a w rest hm hw => ?read, fun v rest hm => ?arg0, fun t hreset h => ?frame⟩
  case command =>
    refine (step_of_command hm).trans (execute_of_faulted ?_ w)
    exact hf
  case read => rw [step_of_read hm, State.busRead_of_some hw]
  case arg0 =>
    refine ⟨_, (step_of_write hm).trans (busWrite_arg0 v _), hf, ?_⟩
    exact State.readWord_of_control _ (k := 1) rfl (by decide)
  case frame =>
    obtain ⟨_, _, _, rfl⟩ := step_of_faulted hf hreset h
    exact ⟨rfl, rfl, rfl, rfl, rfl, rfl, rfl, rfl, rfl⟩

end Sys2Proof.Machine
end

section
/-! PROOFS. The window shows the whole engine (R195): each register, each voice and each entry of the buffer is
determined by words that the window reads as. -/

namespace Sys2Proof.Machine

/-! ### What the words determine (R42, R66) -/

theorem EnvState.eq_of_decay_iff {a b : EnvState} (h : a = .decay ↔ b = .decay) : a = b := by
  revert h
  cases a <;> cases b <;> decide

/-- The 13 words of R66 hold all 14 fields of a voice: `FLAGS` holds two of them. -/
theorem Voice.eq_of_windowWord_eq {v w : Voice} (h : ∀ k < 16, v.windowWord (4 * k) = w.windowWord (4 * k)) :
    v = w := by
  have hflags : v.flags = w.flags := h 0 (by decide)
  have hactive : v.active = w.active := by rw [← v.flags_active, hflags, w.flags_active]
  have hstate : v.envelopeState = w.envelopeState :=
    EnvState.eq_of_decay_iff (by rw [← v.flags_envelopeState, hflags, w.flags_envelopeState])
  cases v
  cases w
  rw [Voice.mk.injEq]
  exact ⟨hactive, h 1 (by decide), h 2 (by decide), h 3 (by decide), h 4 (by decide), h 5 (by decide), hstate,
    h 6 (by decide), h 7 (by decide), h 8 (by decide), h 9 (by decide), h 10 (by decide), h 11 (by decide),
    h 12 (by decide)⟩

/-- A sound `STATUS` has no bit that a read masks. -/
theorem State.FaultRecordSound.statusRead_eq {s : State} (h : s.FaultRecordSound) : s.statusRead = s.status := by
  obtain ⟨hst, -⟩ | ⟨c, hst, -⟩ := h
  · rw [State.statusRead, hst]
    rfl
  · rw [State.statusRead, hst]
    cases c <;> rfl

/-- Two buffers of `n` entries that have the same entries below `n` are the same. -/
theorem out_eq_of_outEntry_eq {s t : State} {n : Nat} (hs : s.out.length = n) (ht : t.out.length = n)
    (h : ∀ k < n, t.outEntry k = s.outEntry k) : t.out = s.out := by
  refine List.ext_getElem (ht.trans hs.symm) fun k hkt hks => ?_
  have hentry := h k (hs ▸ hks)
  rwa [State.outEntry, State.outEntry, List.getD_eq_getElem _ _ hkt, List.getD_eq_getElem _ _ hks] at hentry

/-! ### Two engines that read alike (R57, R66) -/

section ReadAlike
variable {s t : State} (h : ∀ a : Addr, t.readWord a = s.readWord a)
include h

theorem controlWord_eq_of_readWord_eq {k : Nat} (hk : k < 64) : t.controlWord k = s.controlWord k := by
  have ha : (BitVec.ofNat 16 (4 * k) : Addr).toNat = 4 * k := toNat_addr (by omega)
  rw [← t.readWord_of_control ha hk, h, s.readWord_of_control ha hk]

theorem voice_eq_of_readWord_eq (i : Slot) : t.voice i = s.voice i := by
  refine Voice.eq_of_windowWord_eq fun k hk => ?_
  have hi : i.val < 14 := i.isLt
  have ha : (BitVec.ofNat 16 (0x0100 + 0x40 * i.val + 4 * k) : Addr).toNat = 0x0100 + 0x40 * i.val + 4 * k :=
    toNat_addr (by omega)
  apply Option.some.inj
  rw [← t.readWord_of_voice i ha (by omega) (by omega), h, s.readWord_of_voice i ha (by omega) (by omega)]

theorem outEntry_eq_of_readWord_eq (hparams : t.params = s.params) {k : Nat} (hk : k < s.params.blockMax)
    (hfit : k < 4096) : t.outEntry k = s.outEntry k := by
  have ha : (BitVec.ofNat 16 (0x4000 + 4 * k) : Addr).toNat = 0x4000 + 4 * k := toNat_addr (by omega)
  apply Option.some.inj
  rw [← t.readWord_of_out ha (by rwa [hparams]) hfit, h, s.readWord_of_out ha hk hfit]

end ReadAlike

/-- Settles O13: registers from the control words, voices from their windows, the buffer entry by entry. -/
theorem windowShowsWholeEngine : Obligations.WindowShowsWholeEngine := by
  intro s t ⟨_, hmax⟩ hparams ⟨hsout, _⟩ ⟨htout, _⟩ hsfault htfault h
  have hmax : s.params.blockMax ≤ 4096 := hmax
  have control (k : Nat) (hk : k < 64) := controlWord_eq_of_readWord_eq h hk
  exact {
    voices := voices_ext (voice_eq_of_readWord_eq h)
    out := out_eq_of_outEntry_eq hsout (hparams ▸ htout) fun k hk =>
      outEntry_eq_of_readWord_eq h hparams hk (by omega)
    agectr := Option.some.inj (control 5 (by decide))
    arg0 := Option.some.inj (control 1 (by decide))
    result := Option.some.inj (control 2 (by decide))
    status := by
      rw [← htfault.statusRead_eq, ← hsfault.statusRead_eq]
      exact Option.some.inj (control 3 (by decide))
    faultcmd := Option.some.inj (control 9 (by decide))
    outlen := Option.some.inj (control 4 (by decide))
    params := hparams }

end Sys2Proof.Machine
end

section
/-! PROOFS. Reset and hazards (70_reset_and_hazards.md): every step answers (R212), reset clears the engine (R200), and
what no draw reaches evolves the same in two engines (R203). `Outcome.Alike` relates what two engines answer to the same
move, and each operation of the machine, from a frame of a voice up to a step, keeps them alike. -/

namespace Sys2Proof.Machine

/-! ### Every step answers (R58, R196, R212) -/

theorem exec_answers (i : Instr) (s : State) : ∃ t, exec i s = .next t ∧ t.moves = s.moves := by
  cases i with
  | noteon p v =>
    by_cases hv : v = 0
    · subst hv
      exact ⟨_, exec_noteon_zero s p, rfl⟩
    · by_cases hctr : s.agectr = 0xFFFFFFFF#32
      · exact ⟨_, exec_noteon_agewrap hv hctr p, rfl⟩
      · exact ⟨_, exec_noteon_allocate hv hctr p, rfl⟩
  | render n =>
    obtain hn | hn := lt_or_ge s.params.blockMax n
    · exact ⟨_, exec_render_of_lt hn, rfl⟩
    · exact ⟨_, exec_render_of_le hn, s.moves_renderBlock n⟩
  | sineat => exact ⟨_, exec_sineat s, rfl⟩
  | sawat => exact ⟨_, exec_sawat s, rfl⟩
  | phinc => exact ⟨_, exec_phinc s, rfl⟩

theorem execute_answers (w : Word) (s : State) : ∃ t, execute w s = .next t ∧ t.moves = s.moves := by
  cases hf : s.faulted with
  | true => exact ⟨s, execute_of_faulted hf w, rfl⟩
  | false =>
    cases hd : decode w with
    | ok i => rw [execute_of_ok hf hd]; exact exec_answers i s
    | error e => exact ⟨_, execute_of_error hf hd, rfl⟩

/-- The three targets of a write (R53): `CMD`, `ARG0`, and all others. -/
theorem write_targets (bytes : Nat) (a : Addr) : (bytes = 4 ∧ a = 0x0000#16) ∨ (bytes = 4 ∧ a = 0x0004#16) ∨
    (bytes ≠ 4 ∨ (a ≠ 0x0000#16 ∧ a ≠ 0x0004#16)) := by
  tauto

theorem busWrite_answers (bytes : Nat) (a : Addr) (v : Word) (s : State) :
    ∃ t, busWrite bytes a v s = .next t ∧ t.moves = s.moves := by
  obtain ⟨rfl, rfl⟩ | ⟨rfl, rfl⟩ | herr := write_targets bytes a
  · rw [busWrite_cmd]; exact execute_answers v _
  · exact ⟨_, busWrite_arg0 v s, rfl⟩
  · exact ⟨_, busWrite_eq_error v s herr, rfl⟩

theorem hostMove_answers (m : HostMove) (s : State) : ∃ t, hostMove m s = .next t ∧ t.moves = s.moves := by
  cases m with
  | read bytes a => exact ⟨_, rfl, rfl⟩
  | write bytes a v => exact busWrite_answers bytes a v s
  | reset => exact ⟨_, rfl, rfl⟩

theorem step_of_idle {s : State} (h : s.moves = []) : step s = .next s := by rw [step, h]

theorem step_of_move {s : State} {m : HostMove} {rest : List HostMove} (h : s.moves = m :: rest) :
    step s = hostMove m s.takeMove := by rw [step, h]

/-- Settles O6: an idle step answers the state itself, and any other takes its move and leaves the rest. -/
theorem everyStepAnswers : Obligations.EveryStepAnswers := by
  refine fun s => ⟨?_, step_of_idle⟩
  cases hm : s.moves with
  | nil => exact ⟨s, step_of_idle hm, hm⟩
  | cons m rest =>
    obtain ⟨t, ht, hmoves⟩ := hostMove_answers m s.takeMove
    exact ⟨t, (step_of_move hm).trans ht, by rw [hmoves, State.moves_takeMove, hm]⟩

/-! ### The reset input (R189, R200) -/

/-- Settles O16: the state after the step is that of `State.resetEngine`, field by field. -/
theorem resetInputClearsEngine : Obligations.ResetInputClearsEngine := fun s rest hm =>
  ⟨s.takeMove.resetEngine, step_of_move hm, by rw [State.moves_resetEngine, State.moves_takeMove, hm, List.tail_cons],
    rfl, State.faulted_resetEngine _, State.voice_resetEngine _, rfl, rfl, rfl, rfl, rfl, rfl, rfl⟩

/-! ### A voice that renders (R155, R203) -/

namespace Voice.SameUpToDraws
variable {v w : Voice}

theorem refl (v : Voice) : v.SameUpToDraws v := ⟨rfl, rfl, rfl, rfl, rfl, rfl, rfl, rfl, rfl, rfl, rfl⟩

theorem sameEnvelope (h : v.SameUpToDraws w) : SameEnvelope v w :=
  ⟨h.active, h.envelope, h.envelopeState, h.attackCoeff, h.decayCoeff⟩

/-- The transient decays by its envelope alone (R146), so the draws of a frame do not reach it. -/
theorem frame_pluckEnvelope (h : v.SameUpToDraws w) (e f : Entropy) :
    (frameVoice w f).pluckEnvelope = (frameVoice v e).pluckEnvelope := by
  rw [frameVoice_pluckEnvelope, frameVoice_pluckEnvelope, pluckRuns, pluckRuns, h.pluckEnvelope, h.pluckDecayCoeff]

theorem frame (h : v.SameUpToDraws w) (e f : Entropy) : (frameVoice v e).SameUpToDraws (frameVoice w f) :=
  have henv := h.sameEnvelope.frame e f
  have hv := frameVoice_sameTuning v e
  have hw := frameVoice_sameTuning w f
  { active := henv.active
    phase := by rw [frameVoice_phase, frameVoice_phase, h.phase, h.phaseInc]
    phaseInc := by rw [hw.phaseInc, hv.phaseInc, h.phaseInc]
    envelope := henv.envelope
    envelopeState := henv.envelopeState
    attackCoeff := henv.attackCoeff
    decayCoeff := henv.decayCoeff
    pluckEnvelope := h.frame_pluckEnvelope e f
    pluckDecayCoeff := by rw [hw.pluckDecayCoeff, hv.pluckDecayCoeff, h.pluckDecayCoeff]
    age := by rw [hw.age, hv.age, h.age]
    detuneRatio := by rw [hw.detuneRatio, hv.detuneRatio, h.detuneRatio] }

/-- The two runs have equally many frames, as `SameEnvelope.frame` ends them together. -/
theorem run (h : v.SameUpToDraws w) (n : Nat) (e f : Entropy) :
    (runVoice n v e).voice.SameUpToDraws (runVoice n w f).voice := by
  induction n generalizing v w e f with
  | zero => exact h
  | succ n ih =>
    have hframe := h.frame e f
    cases ha : (frameVoice v e).active with
    | true =>
      rw [runVoice_succ_active ha, runVoice_succ_active (hframe.active.trans ha)]
      exact ih hframe _ _
    | false =>
      rw [runVoice_succ_ended ha, runVoice_succ_ended (hframe.active.trans ha)]
      exact hframe

end Voice.SameUpToDraws

theorem mixBlock_sameUpToDraws {vs ws : VoiceFile} (h : ∀ i, (voiceAt vs i).SameUpToDraws (voiceAt ws i)) (n : Nat)
    (e f : Entropy) (i : Slot) :
    (voiceAt (mixBlock n vs e).voices i).SameUpToDraws (voiceAt (mixBlock n ws f).voices i) := by
  obtain ⟨e', he⟩ := mixBlock_voices n vs e i
  obtain ⟨f', hf⟩ := mixBlock_voices n ws f i
  rw [he, hf, (h i).active]
  split
  · exact (h i).run n e' f'
  · exact h i

/-! ### The voice that an allocation selects and writes (R112, R114, R115, R203) -/

/-- An encodable pitch has a frequency that is a number, so the primary increment uses no free value either. -/
theorem allocatedVoice_sameUpToDraws {p : Nat} (hp : p < 256) (q : Params) (o o' : Word) (i : Slot) (j j' : F32)
    (age : Word) : (allocatedVoice q o p i j age).SameUpToDraws (allocatedVoice q o' p i j' age) :=
  { Voice.SameUpToDraws.refl (allocatedVoice q o p i j age) with
    phaseInc := phaseIncrementFor_eq (isNaN_of_isFinite (primaryFrequency_bounds hp i).1) o' o }

/-- `Select` reads no field that a draw reaches. -/
theorem select_eq_of_sameUpToDraws {vs ws : VoiceFile}
    (h : ∀ i, (voiceAt vs i).SameUpToDraws (voiceAt ws i)) : select ws = select vs := by
  have hinactive : firstInactive ws = firstInactive vs := by simp only [firstInactive, (h _).active]
  have hsteal (i j : Slot) :
      stealBefore (voiceAt ws i) (voiceAt ws j) = stealBefore (voiceAt vs i) (voiceAt vs j) := by
    simp only [stealBefore, (h _).envelope, (h _).age]
  have hquietest : quietest ws = quietest vs := by simp only [quietest, hsteal]
  rw [select, select, hinactive, hquietest]

/-! ### Two engines that are alike (R203) -/

/-- Two states that differ only in what a draw can reach, and whose `RESULT` agrees where `R` holds. -/
structure State.Alike (R : Prop) (s t : State) : Prop where
  core : s.SameUpToDraws t
  result : R → t.result = s.result

/-- Two engines answer, and answer alike. -/
inductive Outcome.Alike (R : Prop) : Outcome → Outcome → Prop where
  | next {s t : State} (h : s.Alike R t) : Outcome.Alike R (.next s) (.next t)

namespace State.Alike
variable {R : Prop} {s t : State} (h : s.Alike R t)
include h

theorem faulted : t.faulted = s.faulted := by rw [State.faulted, State.faulted, h.core.status]

theorem takeMove : s.takeMove.Alike R t.takeMove where
  core := { h.core with moves := congrArg List.tail h.core.moves }
  result := h.result

theorem respond (q r : BusResponse) : (s.respond q).Alike R (t.respond r) where
  core := { h.core with }
  result := h.result

theorem setArg0 (w : Word) : (s.setArg0 w).Alike R (t.setArg0 w) where
  core := { h.core with arg0 := rfl }
  result := h.result

/-- A query's answer, with whatever it leaves of the entropy source. -/
theorem answer {a b : Word} (hab : R → b = a) (e f : Entropy) :
    State.Alike R { s with result := a, entropy := e } { t with result := b, entropy := f } where
  core := { h.core with }
  result := hab

theorem raiseFault (c : Cause) (w : Word) : (s.raiseFault c w).Alike R (t.raiseFault c w) where
  core := { h.core with status := rfl, faultcmd := rfl }
  result := h.result

theorem resetEngine : s.resetEngine.Alike R t.resetEngine where
  core :=
    { voices := fun i => by rw [State.voice_resetEngine, State.voice_resetEngine]; exact .refl _
      agectr := rfl, arg0 := rfl, status := rfl, faultcmd := rfl, outlen := rfl
      params := h.core.params, moves := h.core.moves }
  result := fun _ => rfl

theorem select_eq : select t.voices = select s.voices := select_eq_of_sameUpToDraws h.core.voices

theorem voice_allocate {p : Nat} (hp : p < 256) (i : Slot) :
    ((s.allocate p).voice i).SameUpToDraws ((t.allocate p).voice i) := by
  rw [State.voice_allocate, State.voice_allocate, h.select_eq, h.core.params, h.core.agectr]
  split
  · exact allocatedVoice_sameUpToDraws hp ..
  · exact h.core.voices i

theorem allocate {p : Nat} (hp : p < 256) : (s.allocate p).Alike R (t.allocate p) where
  core := { h.core with
    voices := h.voice_allocate hp
    agectr := congrArg (· + 1) h.core.agectr }
  result := fun _ => congrArg slotWord h.select_eq

theorem withBlock (n : Nat) {m m' : Mix} (hm : ∀ i, (voiceAt m.voices i).SameUpToDraws (voiceAt m'.voices i)) :
    (s.withBlock n m).Alike R (t.withBlock n m') where
  core := { h.core with
    voices := hm
    outlen := rfl }
  result := h.result

theorem renderBlock (n : Nat) : (s.renderBlock n).Alike R (t.renderBlock n) :=
  h.withBlock n (mixBlock_sameUpToDraws h.core.voices n s.entropy t.entropy)

/-- Of the commands only `PHINC` of a NaN answers a free value. -/
theorem exec {i : Instr} (hi : i.WellFormed) (hnum : R → i = .phinc → isNaN s.arg0 = false) :
    Outcome.Alike R (exec i s) (exec i t) := by
  cases i with
  | noteon p v =>
    simp only [Instr.WellFormed, Instr.wellFormed, Bool.and_eq_true, decide_eq_true_eq] at hi
    obtain ⟨hp, -⟩ := hi
    by_cases hv : v = 0
    · subst hv
      rw [exec_noteon_zero, exec_noteon_zero]
      exact .next (h.answer (fun _ => rfl) _ _)
    · by_cases hctr : s.agectr = 0xFFFFFFFF#32
      · rw [exec_noteon_agewrap hv hctr, exec_noteon_agewrap hv (h.core.agectr.trans hctr)]
        exact .next (h.raiseFault _ _)
      · rw [exec_noteon_allocate hv hctr, exec_noteon_allocate hv (h.core.agectr ▸ hctr)]
        exact .next (h.allocate hp)
  | render n =>
    obtain hn | hn := lt_or_ge s.params.blockMax n
    · rw [exec_render_of_lt hn, exec_render_of_lt (h.core.params ▸ hn)]
      exact .next (h.raiseFault _ _)
    · rw [exec_render_of_le hn, exec_render_of_le (h.core.params ▸ hn)]
      exact .next (h.renderBlock n)
  | sineat => exact .next (h.answer (fun _ => congrArg sineAt h.core.arg0) _ _)
  | sawat => exact .next (h.answer (fun _ => congrArg sawAt h.core.arg0) _ _)
  | phinc =>
    refine .next (h.answer (fun hR => ?_) _ _)
    rw [State.frequencyOperand, State.frequencyOperand, h.core.arg0]
    exact phaseIncrementFor_eq (hnum hR rfl) _ _

theorem execute {w : Word} (hnum : R → decode w = .ok .phinc → isNaN s.arg0 = false) :
    Outcome.Alike R (execute w s) (execute w t) := by
  cases hf : s.faulted with
  | true =>
    rw [execute_of_faulted hf, execute_of_faulted (h.faulted.trans hf)]
    exact .next h
  | false =>
    cases hd : decode w with
    | ok i =>
      rw [execute_of_ok hf hd, execute_of_ok (h.faulted.trans hf) hd]
      exact h.exec (wellFormed_of_decode hd) fun hR hi => hnum hR (hi ▸ hd)
    | error e =>
      rw [execute_of_error hf hd, execute_of_error (h.faulted.trans hf) hd]
      exact .next (h.raiseFault _ _)

theorem busWrite {bytes : Nat} {a : Addr} {v : Word}
    (hnum : R → bytes = 4 → a = 0x0000#16 → decode v = .ok .phinc → isNaN s.arg0 = false) :
    Outcome.Alike R (busWrite bytes a v s) (busWrite bytes a v t) := by
  obtain ⟨rfl, rfl⟩ | ⟨rfl, rfl⟩ | herr := write_targets bytes a
  · rw [busWrite_cmd, busWrite_cmd]
    exact (h.respond _ _).execute fun hR => hnum hR rfl rfl
  · rw [busWrite_arg0, busWrite_arg0]
    exact .next ((h.respond _ _).setArg0 v)
  · rw [busWrite_eq_error v s herr, busWrite_eq_error v t herr]
    exact .next (h.respond _ _)

theorem hostMove {m : HostMove}
    (hnum : R → ∀ w, m = commandMove w → decode w = .ok .phinc → isNaN s.arg0 = false) :
    Outcome.Alike R (hostMove m s) (hostMove m t) := by
  cases m with
  | read bytes a => exact .next (h.respond _ _)
  | write bytes a v => exact h.busWrite fun hR hb ha => hnum hR v (by rw [hb, ha, commandMove])
  | reset => exact .next h.resetEngine

theorem step (hnum : R → ∀ w, s.moves.head? = some (commandMove w) → decode w = .ok .phinc → isNaN s.arg0 = false) :
    Outcome.Alike R (step s) (step t) := by
  cases hm : s.moves with
  | nil =>
    rw [step_of_idle hm, step_of_idle (h.core.moves.trans hm)]
    exact .next h
  | cons m rest =>
    rw [step_of_move hm, step_of_move (h.core.moves.trans hm)]
    exact h.takeMove.hostMove fun hR w hw => hnum hR w (by rw [hm, hw]; rfl)

end State.Alike

/-- Settles O60: engines whose `RESULT` agrees where it agreed before and the step is no `PHINC` of a NaN are alike, and
stay so. -/
theorem evolutionIndependentOfDraws : Obligations.EvolutionIndependentOfDraws := by
  intro s₁ s₂ t₁ t₂ h h₁ h₂
  have halike : s₁.Alike (s₂.result = s₁.result ∧ ∀ w, s₁.moves.head? = some (commandMove w) →
      decode w = .ok .phinc → isNaN s₁.arg0 = false) s₂ := ⟨h, And.left⟩
  have hstep := halike.step And.right
  rw [h₁, h₂] at hstep
  obtain ⟨hcore, hresult⟩ := hstep
  exact ⟨hcore, fun heq hnum => hresult ⟨heq, hnum⟩⟩

end Sys2Proof.Machine
end
